-- ==== Sys2Proof/Word.lean ====
section
/-! DEFINITION. The machine's two widths (00_scope.md R9, R12): a byte is 0..255, a word is 0..65535. -/

namespace Sys2Proof

/-- A byte (R12): the width of A, X, Y, SP and of every memory access (R9, R109). -/
abbrev Byte := BitVec 8

/-- A word (R12): the width of PC and of an address of the CPU's 64 KiB space (R9, R10). -/
abbrev Word := BitVec 16

end Sys2Proof
end

