-- ==== Sys2Proof/Machine/Bits.lean ====
section
/-! DEFINITION. The bit-field notation of 00_scope.md R13 and R14: low and high byte of a word, the word of two
bytes, sign and zero extension, the signed reading of a byte. -/

namespace Sys2Proof.Machine

/-- `lo8(w) = w[7:0]` (R13). -/
def lo8 (w : Word) : Byte := w.extractLsb' 0 8

/-- `hi8(w) = w[15:8]` (R13). -/
def hi8 (w : Word) : Byte := w.extractLsb' 8 8

/-- The word `{hi, lo} = hi * 256 + lo` (R13). -/
def word (hi lo : Byte) : Word := hi ++ lo

/-- `zext_16(b)` (R14). -/
def zext16 (b : Byte) : Word := b.setWidth 16

/-- `sext_16(b)`: b if b < 128, else b + 65280 (R14). -/
def sext16 (b : Byte) : Word := b.signExtend 16

/-- `signed8(b)`: b if b < 128, else b - 256 (R14). -/
def signed8 (b : Byte) : Int := b.toInt

/-- One bit as the number 0 or 1, for the sums of R330, R367 and R368. -/
def bit (c : Bool) : Byte := if c then 1 else 0

end Sys2Proof.Machine
end

