-- ==== Sys2Proof/Syntax.lean ====
section
/-! DEFINITION. The instructions as data: one constructor of `Instr` per row of spec/opcode_table.json (256 opcode
bytes, 30_encoding.md R190), with the operand bytes the row's addressing mode has (R162). Beside it the names the spec
uses to speak of several rows at once: the mnemonics of R191, the 13 addressing modes, and operands. -/

namespace Sys2Proof

/-- The 13 addressing modes of 30_encoding.md R162. -/
inductive Mode where
  | imp | acc | imm | zp | zpx | zpy | rel | abs | absx | absy | ind | indx | indy
  deriving DecidableEq, Repr

/-- The operand of a mode that has an effective address in memory (R173 to R181). A word operand is the two operand
bytes of the instruction, the low byte first (R115, R162). -/
inductive MemOperand where
  /-- Zero page (R173). -/
  | zp (b : Byte)
  /-- Zero page,X (R174). -/
  | zpx (b : Byte)
  /-- Zero page,Y (R175). -/
  | zpy (b : Byte)
  /-- Absolute (R179). -/
  | abs (w : Word)
  /-- Absolute,X (R180). -/
  | absx (w : Word)
  /-- Absolute,Y (R181). -/
  | absy (w : Word)
  /-- Indirect, JMP only (R178). -/
  | ind (w : Word)
  /-- Indexed indirect (R176). -/
  | indx (b : Byte)
  /-- Indirect indexed (R177). -/
  | indy (b : Byte)
  deriving DecidableEq, Repr

/-- What the read class takes its byte M from (R172, R183): the immediate byte, or memory. -/
inductive Source where
  | imm (b : Byte)
  | mem (m : MemOperand)
  deriving DecidableEq, Repr

/-- What a shift or rotate acts on (46_shift.md: `Src` and `Dst`): A, or the byte at EA. -/
inductive Target where
  | acc
  | mem (m : MemOperand)
  deriving DecidableEq, Repr

/-- The operand part of an instruction as it stands after the opcode byte (R162). -/
inductive Operand where
  | implied
  | accumulator
  | immediate (b : Byte)
  | relative (b : Byte)
  | memory (m : MemOperand)
  deriving DecidableEq, Repr

/-- The mnemonics of 30_encoding.md R191: 56 documented, 14 undocumented with names of their own, and the names of the
halting opcodes. The undocumented NOP forms and SBC $EB share their documented namesakes' mnemonic, as in the table. -/
inductive Mnemonic where
  | brk | ora | jam | slo | nop | asl | php | anc | bpl | clc | jsr | and | rla | bit | rol | plp | bmi | sec
  | rti | eor | sre | lsr | pha | alr | jmp | bvc | cli | rts | adc | rra | ror | pla | arr | bvs | sei | sta
  | sax | sty | stx | dey | txa | ane | bcc | sha | tya | txs | shs | shy | shx | ldy | lda | ldx | lax | tay
  | tax | lxa | bcs | clv | tsx | las | cpy | cmp | dcp | dec | iny | dex | axs | bne | cld | cpx | sbc | isc
  | inc | inx | beq | sed
  deriving DecidableEq, Repr

/-- One constructor per row of spec/opcode_table.json: first the rows with an operand, then those without, each in opcode
order (Lean's compiler takes at most 244 constructors with arguments, so these stand first). Where a mnemonic has several rows its
constructors carry the mode, and where one mnemonic and mode has several opcode bytes, the byte too. A halting opcode
has no operand: none is fetched (30_encoding.md R226). -/
inductive Instr where
  /-- `$01` ORA ($nn,X). -/
  | oraIndx (b : Byte)
  /-- `$03` SLO ($nn,X). -/
  | sloIndx (b : Byte)
  /-- `$04` NOP $nn. -/
  | nopZp04 (b : Byte)
  /-- `$05` ORA $nn. -/
  | oraZp (b : Byte)
  /-- `$06` ASL $nn. -/
  | aslZp (b : Byte)
  /-- `$07` SLO $nn. -/
  | sloZp (b : Byte)
  /-- `$09` ORA #$nn. -/
  | oraImm (b : Byte)
  /-- `$0B` ANC #$nn. -/
  | ancImm0B (b : Byte)
  /-- `$0C` NOP $hhll. -/
  | nopAbs0C (w : Word)
  /-- `$0D` ORA $hhll. -/
  | oraAbs (w : Word)
  /-- `$0E` ASL $hhll. -/
  | aslAbs (w : Word)
  /-- `$0F` SLO $hhll. -/
  | sloAbs (w : Word)
  /-- `$10` BPL label. -/
  | bpl (b : Byte)
  /-- `$11` ORA ($nn),Y. -/
  | oraIndy (b : Byte)
  /-- `$13` SLO ($nn),Y. -/
  | sloIndy (b : Byte)
  /-- `$14` NOP $nn,X. -/
  | nopZpx14 (b : Byte)
  /-- `$15` ORA $nn,X. -/
  | oraZpx (b : Byte)
  /-- `$16` ASL $nn,X. -/
  | aslZpx (b : Byte)
  /-- `$17` SLO $nn,X. -/
  | sloZpx (b : Byte)
  /-- `$19` ORA $hhll,Y. -/
  | oraAbsy (w : Word)
  /-- `$1B` SLO $hhll,Y. -/
  | sloAbsy (w : Word)
  /-- `$1C` NOP $hhll,X. -/
  | nopAbsx1C (w : Word)
  /-- `$1D` ORA $hhll,X. -/
  | oraAbsx (w : Word)
  /-- `$1E` ASL $hhll,X. -/
  | aslAbsx (w : Word)
  /-- `$1F` SLO $hhll,X. -/
  | sloAbsx (w : Word)
  /-- `$20` JSR $hhll. -/
  | jsr (w : Word)
  /-- `$21` AND ($nn,X). -/
  | andIndx (b : Byte)
  /-- `$23` RLA ($nn,X). -/
  | rlaIndx (b : Byte)
  /-- `$24` BIT $nn. -/
  | bitZp (b : Byte)
  /-- `$25` AND $nn. -/
  | andZp (b : Byte)
  /-- `$26` ROL $nn. -/
  | rolZp (b : Byte)
  /-- `$27` RLA $nn. -/
  | rlaZp (b : Byte)
  /-- `$29` AND #$nn. -/
  | andImm (b : Byte)
  /-- `$2B` ANC #$nn. -/
  | ancImm2B (b : Byte)
  /-- `$2C` BIT $hhll. -/
  | bitAbs (w : Word)
  /-- `$2D` AND $hhll. -/
  | andAbs (w : Word)
  /-- `$2E` ROL $hhll. -/
  | rolAbs (w : Word)
  /-- `$2F` RLA $hhll. -/
  | rlaAbs (w : Word)
  /-- `$30` BMI label. -/
  | bmi (b : Byte)
  /-- `$31` AND ($nn),Y. -/
  | andIndy (b : Byte)
  /-- `$33` RLA ($nn),Y. -/
  | rlaIndy (b : Byte)
  /-- `$34` NOP $nn,X. -/
  | nopZpx34 (b : Byte)
  /-- `$35` AND $nn,X. -/
  | andZpx (b : Byte)
  /-- `$36` ROL $nn,X. -/
  | rolZpx (b : Byte)
  /-- `$37` RLA $nn,X. -/
  | rlaZpx (b : Byte)
  /-- `$39` AND $hhll,Y. -/
  | andAbsy (w : Word)
  /-- `$3B` RLA $hhll,Y. -/
  | rlaAbsy (w : Word)
  /-- `$3C` NOP $hhll,X. -/
  | nopAbsx3C (w : Word)
  /-- `$3D` AND $hhll,X. -/
  | andAbsx (w : Word)
  /-- `$3E` ROL $hhll,X. -/
  | rolAbsx (w : Word)
  /-- `$3F` RLA $hhll,X. -/
  | rlaAbsx (w : Word)
  /-- `$41` EOR ($nn,X). -/
  | eorIndx (b : Byte)
  /-- `$43` SRE ($nn,X). -/
  | sreIndx (b : Byte)
  /-- `$44` NOP $nn. -/
  | nopZp44 (b : Byte)
  /-- `$45` EOR $nn. -/
  | eorZp (b : Byte)
  /-- `$46` LSR $nn. -/
  | lsrZp (b : Byte)
  /-- `$47` SRE $nn. -/
  | sreZp (b : Byte)
  /-- `$49` EOR #$nn. -/
  | eorImm (b : Byte)
  /-- `$4B` ALR #$nn. -/
  | alr (b : Byte)
  /-- `$4C` JMP $hhll. -/
  | jmpAbs (w : Word)
  /-- `$4D` EOR $hhll. -/
  | eorAbs (w : Word)
  /-- `$4E` LSR $hhll. -/
  | lsrAbs (w : Word)
  /-- `$4F` SRE $hhll. -/
  | sreAbs (w : Word)
  /-- `$50` BVC label. -/
  | bvc (b : Byte)
  /-- `$51` EOR ($nn),Y. -/
  | eorIndy (b : Byte)
  /-- `$53` SRE ($nn),Y. -/
  | sreIndy (b : Byte)
  /-- `$54` NOP $nn,X. -/
  | nopZpx54 (b : Byte)
  /-- `$55` EOR $nn,X. -/
  | eorZpx (b : Byte)
  /-- `$56` LSR $nn,X. -/
  | lsrZpx (b : Byte)
  /-- `$57` SRE $nn,X. -/
  | sreZpx (b : Byte)
  /-- `$59` EOR $hhll,Y. -/
  | eorAbsy (w : Word)
  /-- `$5B` SRE $hhll,Y. -/
  | sreAbsy (w : Word)
  /-- `$5C` NOP $hhll,X. -/
  | nopAbsx5C (w : Word)
  /-- `$5D` EOR $hhll,X. -/
  | eorAbsx (w : Word)
  /-- `$5E` LSR $hhll,X. -/
  | lsrAbsx (w : Word)
  /-- `$5F` SRE $hhll,X. -/
  | sreAbsx (w : Word)
  /-- `$61` ADC ($nn,X). -/
  | adcIndx (b : Byte)
  /-- `$63` RRA ($nn,X). -/
  | rraIndx (b : Byte)
  /-- `$64` NOP $nn. -/
  | nopZp64 (b : Byte)
  /-- `$65` ADC $nn. -/
  | adcZp (b : Byte)
  /-- `$66` ROR $nn. -/
  | rorZp (b : Byte)
  /-- `$67` RRA $nn. -/
  | rraZp (b : Byte)
  /-- `$69` ADC #$nn. -/
  | adcImm (b : Byte)
  /-- `$6B` ARR #$nn. -/
  | arr (b : Byte)
  /-- `$6C` JMP ($hhll). -/
  | jmpInd (w : Word)
  /-- `$6D` ADC $hhll. -/
  | adcAbs (w : Word)
  /-- `$6E` ROR $hhll. -/
  | rorAbs (w : Word)
  /-- `$6F` RRA $hhll. -/
  | rraAbs (w : Word)
  /-- `$70` BVS label. -/
  | bvs (b : Byte)
  /-- `$71` ADC ($nn),Y. -/
  | adcIndy (b : Byte)
  /-- `$73` RRA ($nn),Y. -/
  | rraIndy (b : Byte)
  /-- `$74` NOP $nn,X. -/
  | nopZpx74 (b : Byte)
  /-- `$75` ADC $nn,X. -/
  | adcZpx (b : Byte)
  /-- `$76` ROR $nn,X. -/
  | rorZpx (b : Byte)
  /-- `$77` RRA $nn,X. -/
  | rraZpx (b : Byte)
  /-- `$79` ADC $hhll,Y. -/
  | adcAbsy (w : Word)
  /-- `$7B` RRA $hhll,Y. -/
  | rraAbsy (w : Word)
  /-- `$7C` NOP $hhll,X. -/
  | nopAbsx7C (w : Word)
  /-- `$7D` ADC $hhll,X. -/
  | adcAbsx (w : Word)
  /-- `$7E` ROR $hhll,X. -/
  | rorAbsx (w : Word)
  /-- `$7F` RRA $hhll,X. -/
  | rraAbsx (w : Word)
  /-- `$80` NOP #$nn. -/
  | nopImm80 (b : Byte)
  /-- `$81` STA ($nn,X). -/
  | staIndx (b : Byte)
  /-- `$82` NOP #$nn. -/
  | nopImm82 (b : Byte)
  /-- `$83` SAX ($nn,X). -/
  | saxIndx (b : Byte)
  /-- `$84` STY $nn. -/
  | styZp (b : Byte)
  /-- `$85` STA $nn. -/
  | staZp (b : Byte)
  /-- `$86` STX $nn. -/
  | stxZp (b : Byte)
  /-- `$87` SAX $nn. -/
  | saxZp (b : Byte)
  /-- `$89` NOP #$nn. -/
  | nopImm89 (b : Byte)
  /-- `$8C` STY $hhll. -/
  | styAbs (w : Word)
  /-- `$8D` STA $hhll. -/
  | staAbs (w : Word)
  /-- `$8E` STX $hhll. -/
  | stxAbs (w : Word)
  /-- `$8F` SAX $hhll. -/
  | saxAbs (w : Word)
  /-- `$90` BCC label. -/
  | bcc (b : Byte)
  /-- `$91` STA ($nn),Y. -/
  | staIndy (b : Byte)
  /-- `$94` STY $nn,X. -/
  | styZpx (b : Byte)
  /-- `$95` STA $nn,X. -/
  | staZpx (b : Byte)
  /-- `$96` STX $nn,Y. -/
  | stxZpy (b : Byte)
  /-- `$97` SAX $nn,Y. -/
  | saxZpy (b : Byte)
  /-- `$99` STA $hhll,Y. -/
  | staAbsy (w : Word)
  /-- `$9D` STA $hhll,X. -/
  | staAbsx (w : Word)
  /-- `$A0` LDY #$nn. -/
  | ldyImm (b : Byte)
  /-- `$A1` LDA ($nn,X). -/
  | ldaIndx (b : Byte)
  /-- `$A2` LDX #$nn. -/
  | ldxImm (b : Byte)
  /-- `$A3` LAX ($nn,X). -/
  | laxIndx (b : Byte)
  /-- `$A4` LDY $nn. -/
  | ldyZp (b : Byte)
  /-- `$A5` LDA $nn. -/
  | ldaZp (b : Byte)
  /-- `$A6` LDX $nn. -/
  | ldxZp (b : Byte)
  /-- `$A7` LAX $nn. -/
  | laxZp (b : Byte)
  /-- `$A9` LDA #$nn. -/
  | ldaImm (b : Byte)
  /-- `$AC` LDY $hhll. -/
  | ldyAbs (w : Word)
  /-- `$AD` LDA $hhll. -/
  | ldaAbs (w : Word)
  /-- `$AE` LDX $hhll. -/
  | ldxAbs (w : Word)
  /-- `$AF` LAX $hhll. -/
  | laxAbs (w : Word)
  /-- `$B0` BCS label. -/
  | bcs (b : Byte)
  /-- `$B1` LDA ($nn),Y. -/
  | ldaIndy (b : Byte)
  /-- `$B3` LAX ($nn),Y. -/
  | laxIndy (b : Byte)
  /-- `$B4` LDY $nn,X. -/
  | ldyZpx (b : Byte)
  /-- `$B5` LDA $nn,X. -/
  | ldaZpx (b : Byte)
  /-- `$B6` LDX $nn,Y. -/
  | ldxZpy (b : Byte)
  /-- `$B7` LAX $nn,Y. -/
  | laxZpy (b : Byte)
  /-- `$B9` LDA $hhll,Y. -/
  | ldaAbsy (w : Word)
  /-- `$BB` LAS $hhll,Y. -/
  | las (w : Word)
  /-- `$BC` LDY $hhll,X. -/
  | ldyAbsx (w : Word)
  /-- `$BD` LDA $hhll,X. -/
  | ldaAbsx (w : Word)
  /-- `$BE` LDX $hhll,Y. -/
  | ldxAbsy (w : Word)
  /-- `$BF` LAX $hhll,Y. -/
  | laxAbsy (w : Word)
  /-- `$C0` CPY #$nn. -/
  | cpyImm (b : Byte)
  /-- `$C1` CMP ($nn,X). -/
  | cmpIndx (b : Byte)
  /-- `$C2` NOP #$nn. -/
  | nopImmC2 (b : Byte)
  /-- `$C3` DCP ($nn,X). -/
  | dcpIndx (b : Byte)
  /-- `$C4` CPY $nn. -/
  | cpyZp (b : Byte)
  /-- `$C5` CMP $nn. -/
  | cmpZp (b : Byte)
  /-- `$C6` DEC $nn. -/
  | decZp (b : Byte)
  /-- `$C7` DCP $nn. -/
  | dcpZp (b : Byte)
  /-- `$C9` CMP #$nn. -/
  | cmpImm (b : Byte)
  /-- `$CB` AXS #$nn. -/
  | axs (b : Byte)
  /-- `$CC` CPY $hhll. -/
  | cpyAbs (w : Word)
  /-- `$CD` CMP $hhll. -/
  | cmpAbs (w : Word)
  /-- `$CE` DEC $hhll. -/
  | decAbs (w : Word)
  /-- `$CF` DCP $hhll. -/
  | dcpAbs (w : Word)
  /-- `$D0` BNE label. -/
  | bne (b : Byte)
  /-- `$D1` CMP ($nn),Y. -/
  | cmpIndy (b : Byte)
  /-- `$D3` DCP ($nn),Y. -/
  | dcpIndy (b : Byte)
  /-- `$D4` NOP $nn,X. -/
  | nopZpxD4 (b : Byte)
  /-- `$D5` CMP $nn,X. -/
  | cmpZpx (b : Byte)
  /-- `$D6` DEC $nn,X. -/
  | decZpx (b : Byte)
  /-- `$D7` DCP $nn,X. -/
  | dcpZpx (b : Byte)
  /-- `$D9` CMP $hhll,Y. -/
  | cmpAbsy (w : Word)
  /-- `$DB` DCP $hhll,Y. -/
  | dcpAbsy (w : Word)
  /-- `$DC` NOP $hhll,X. -/
  | nopAbsxDC (w : Word)
  /-- `$DD` CMP $hhll,X. -/
  | cmpAbsx (w : Word)
  /-- `$DE` DEC $hhll,X. -/
  | decAbsx (w : Word)
  /-- `$DF` DCP $hhll,X. -/
  | dcpAbsx (w : Word)
  /-- `$E0` CPX #$nn. -/
  | cpxImm (b : Byte)
  /-- `$E1` SBC ($nn,X). -/
  | sbcIndx (b : Byte)
  /-- `$E2` NOP #$nn. -/
  | nopImmE2 (b : Byte)
  /-- `$E3` ISC ($nn,X). -/
  | iscIndx (b : Byte)
  /-- `$E4` CPX $nn. -/
  | cpxZp (b : Byte)
  /-- `$E5` SBC $nn. -/
  | sbcZp (b : Byte)
  /-- `$E6` INC $nn. -/
  | incZp (b : Byte)
  /-- `$E7` ISC $nn. -/
  | iscZp (b : Byte)
  /-- `$E9` SBC #$nn. -/
  | sbcImm (b : Byte)
  /-- `$EB` SBC #$nn. -/
  | sbcImmEB (b : Byte)
  /-- `$EC` CPX $hhll. -/
  | cpxAbs (w : Word)
  /-- `$ED` SBC $hhll. -/
  | sbcAbs (w : Word)
  /-- `$EE` INC $hhll. -/
  | incAbs (w : Word)
  /-- `$EF` ISC $hhll. -/
  | iscAbs (w : Word)
  /-- `$F0` BEQ label. -/
  | beq (b : Byte)
  /-- `$F1` SBC ($nn),Y. -/
  | sbcIndy (b : Byte)
  /-- `$F3` ISC ($nn),Y. -/
  | iscIndy (b : Byte)
  /-- `$F4` NOP $nn,X. -/
  | nopZpxF4 (b : Byte)
  /-- `$F5` SBC $nn,X. -/
  | sbcZpx (b : Byte)
  /-- `$F6` INC $nn,X. -/
  | incZpx (b : Byte)
  /-- `$F7` ISC $nn,X. -/
  | iscZpx (b : Byte)
  /-- `$F9` SBC $hhll,Y. -/
  | sbcAbsy (w : Word)
  /-- `$FB` ISC $hhll,Y. -/
  | iscAbsy (w : Word)
  /-- `$FC` NOP $hhll,X. -/
  | nopAbsxFC (w : Word)
  /-- `$FD` SBC $hhll,X. -/
  | sbcAbsx (w : Word)
  /-- `$FE` INC $hhll,X. -/
  | incAbsx (w : Word)
  /-- `$FF` ISC $hhll,X. -/
  | iscAbsx (w : Word)
  /-- `$00` BRK. -/
  | brk
  /-- `$02` JAM (halts). -/
  | jam02
  /-- `$08` PHP. -/
  | php
  /-- `$0A` ASL A. -/
  | aslAcc
  /-- `$12` JAM (halts). -/
  | jam12
  /-- `$18` CLC. -/
  | clc
  /-- `$1A` NOP. -/
  | nopImp1A
  /-- `$22` JAM (halts). -/
  | jam22
  /-- `$28` PLP. -/
  | plp
  /-- `$2A` ROL A. -/
  | rolAcc
  /-- `$32` JAM (halts). -/
  | jam32
  /-- `$38` SEC. -/
  | sec
  /-- `$3A` NOP. -/
  | nopImp3A
  /-- `$40` RTI. -/
  | rti
  /-- `$42` JAM (halts). -/
  | jam42
  /-- `$48` PHA. -/
  | pha
  /-- `$4A` LSR A. -/
  | lsrAcc
  /-- `$52` JAM (halts). -/
  | jam52
  /-- `$58` CLI. -/
  | cli
  /-- `$5A` NOP. -/
  | nopImp5A
  /-- `$60` RTS. -/
  | rts
  /-- `$62` JAM (halts). -/
  | jam62
  /-- `$68` PLA. -/
  | pla
  /-- `$6A` ROR A. -/
  | rorAcc
  /-- `$72` JAM (halts). -/
  | jam72
  /-- `$78` SEI. -/
  | sei
  /-- `$7A` NOP. -/
  | nopImp7A
  /-- `$88` DEY. -/
  | dey
  /-- `$8A` TXA. -/
  | txa
  /-- `$8B` ANE #$nn (halts). -/
  | ane
  /-- `$92` JAM (halts). -/
  | jam92
  /-- `$93` SHA ($nn),Y (halts). -/
  | shaIndy
  /-- `$98` TYA. -/
  | tya
  /-- `$9A` TXS. -/
  | txs
  /-- `$9B` SHS $hhll,Y (halts). -/
  | shs
  /-- `$9C` SHY $hhll,X (halts). -/
  | shy
  /-- `$9E` SHX $hhll,Y (halts). -/
  | shx
  /-- `$9F` SHA $hhll,Y (halts). -/
  | shaAbsy
  /-- `$A8` TAY. -/
  | tay
  /-- `$AA` TAX. -/
  | tax
  /-- `$AB` LXA #$nn (halts). -/
  | lxa
  /-- `$B2` JAM (halts). -/
  | jamB2
  /-- `$B8` CLV. -/
  | clv
  /-- `$BA` TSX. -/
  | tsx
  /-- `$C8` INY. -/
  | iny
  /-- `$CA` DEX. -/
  | dex
  /-- `$D2` JAM (halts). -/
  | jamD2
  /-- `$D8` CLD. -/
  | cld
  /-- `$DA` NOP. -/
  | nopImpDA
  /-- `$E8` INX. -/
  | inx
  /-- `$EA` NOP. -/
  | nop
  /-- `$F2` JAM (halts). -/
  | jamF2
  /-- `$F8` SED. -/
  | sed
  /-- `$FA` NOP. -/
  | nopImpFA
  deriving DecidableEq, Repr

end Sys2Proof
end

