-- ==== Sys2Proof/WellFormed.lean ====
section
/-! DEFINITION. Which mnemonic takes which addressing mode (30_encoding.md R191). An `Instr` needs no check: its
operand's width is in its type, and every constructor is one row of the table. What can be ill formed is an assembler
line (R229): a mnemonic with an operand of a mode it does not have, such as `STA #$nn` (R303). -/

namespace Sys2Proof

/-- The mode an operand in memory is written in (R162). -/
def MemOperand.mode : MemOperand → Mode
  | .zp _ => .zp
  | .zpx _ => .zpx
  | .zpy _ => .zpy
  | .abs _ => .abs
  | .absx _ => .absx
  | .absy _ => .absy
  | .ind _ => .ind
  | .indx _ => .indx
  | .indy _ => .indy

/-- The mode of an operand (R162). -/
def Operand.mode : Operand → Mode
  | .implied => .imp
  | .accumulator => .acc
  | .immediate _ => .imm
  | .relative _ => .rel
  | .memory m => m.mode

/-- The addressing modes each mnemonic takes, by 30_encoding.md R191. The halting mnemonics take none: their rows have a nominal mode
only (R226, R228). R229 does not say whether a line may name one of them; that every such line is ill formed is the model's choice
(notes/assumptions/31.md). -/
def Mnemonic.modes : Mnemonic → List Mode
  | .brk => [.imp]
  | .ora => [.imm, .zp, .zpx, .abs, .absx, .absy, .indx, .indy]
  | .jam => []
  | .slo => [.zp, .zpx, .abs, .absx, .absy, .indx, .indy]
  | .nop => [.imp, .imm, .zp, .zpx, .abs, .absx]
  | .asl => [.acc, .zp, .zpx, .abs, .absx]
  | .php => [.imp]
  | .anc => [.imm]
  | .bpl => [.rel]
  | .clc => [.imp]
  | .jsr => [.abs]
  | .and => [.imm, .zp, .zpx, .abs, .absx, .absy, .indx, .indy]
  | .rla => [.zp, .zpx, .abs, .absx, .absy, .indx, .indy]
  | .bit => [.zp, .abs]
  | .rol => [.acc, .zp, .zpx, .abs, .absx]
  | .plp => [.imp]
  | .bmi => [.rel]
  | .sec => [.imp]
  | .rti => [.imp]
  | .eor => [.imm, .zp, .zpx, .abs, .absx, .absy, .indx, .indy]
  | .sre => [.zp, .zpx, .abs, .absx, .absy, .indx, .indy]
  | .lsr => [.acc, .zp, .zpx, .abs, .absx]
  | .pha => [.imp]
  | .alr => [.imm]
  | .jmp => [.abs, .ind]
  | .bvc => [.rel]
  | .cli => [.imp]
  | .rts => [.imp]
  | .adc => [.imm, .zp, .zpx, .abs, .absx, .absy, .indx, .indy]
  | .rra => [.zp, .zpx, .abs, .absx, .absy, .indx, .indy]
  | .ror => [.acc, .zp, .zpx, .abs, .absx]
  | .pla => [.imp]
  | .arr => [.imm]
  | .bvs => [.rel]
  | .sei => [.imp]
  | .sta => [.zp, .zpx, .abs, .absx, .absy, .indx, .indy]
  | .sax => [.zp, .zpy, .abs, .indx]
  | .sty => [.zp, .zpx, .abs]
  | .stx => [.zp, .zpy, .abs]
  | .dey => [.imp]
  | .txa => [.imp]
  | .ane => []
  | .bcc => [.rel]
  | .sha => []
  | .tya => [.imp]
  | .txs => [.imp]
  | .shs => []
  | .shy => []
  | .shx => []
  | .ldy => [.imm, .zp, .zpx, .abs, .absx]
  | .lda => [.imm, .zp, .zpx, .abs, .absx, .absy, .indx, .indy]
  | .ldx => [.imm, .zp, .zpy, .abs, .absy]
  | .lax => [.zp, .zpy, .abs, .absy, .indx, .indy]
  | .tay => [.imp]
  | .tax => [.imp]
  | .lxa => []
  | .bcs => [.rel]
  | .clv => [.imp]
  | .tsx => [.imp]
  | .las => [.absy]
  | .cpy => [.imm, .zp, .abs]
  | .cmp => [.imm, .zp, .zpx, .abs, .absx, .absy, .indx, .indy]
  | .dcp => [.zp, .zpx, .abs, .absx, .absy, .indx, .indy]
  | .dec => [.zp, .zpx, .abs, .absx]
  | .iny => [.imp]
  | .dex => [.imp]
  | .axs => [.imm]
  | .bne => [.rel]
  | .cld => [.imp]
  | .cpx => [.imm, .zp, .abs]
  | .sbc => [.imm, .zp, .zpx, .abs, .absx, .absy, .indx, .indy]
  | .isc => [.zp, .zpx, .abs, .absx, .absy, .indx, .indy]
  | .inc => [.zp, .zpx, .abs, .absx]
  | .inx => [.imp]
  | .beq => [.rel]
  | .sed => [.imp]

/-- An assembler line without its label (R229): a mnemonic and its operand. -/
structure Form where
  mnemonic : Mnemonic
  operand : Operand
  deriving DecidableEq, Repr

/-- The line names an instruction: its mnemonic takes its operand's mode (R191, R229). -/
def Form.wellFormed (f : Form) : Bool := f.mnemonic.modes.contains f.operand.mode

end Sys2Proof
end

