-- ==== Sys2Proof/Decode.lean ====
section
/-! DEFINITION. The decoder (30_encoding.md R160 to R228): from the opcode byte and the operand bytes to the
instruction, by the 256-row opcode map of R190, total on any bytes. After it the encoder, written from the table of
opcode bytes (R191), and the assembler's two choices (R229). -/

namespace Sys2Proof

/-- Opcodes `$00` to `$0F` of the opcode map (R190): each from the operand bytes b1 and {b2, b1}. -/
def decodeRow0 : List (Byte → Word → Instr) :=
  [fun _ _ => .brk, fun b _ => .oraIndx b, fun _ _ => .jam02, fun b _ => .sloIndx b, fun b _ => .nopZp04 b,
   fun b _ => .oraZp b, fun b _ => .aslZp b, fun b _ => .sloZp b, fun _ _ => .php, fun b _ => .oraImm b,
   fun _ _ => .aslAcc, fun b _ => .ancImm0B b, fun _ w => .nopAbs0C w, fun _ w => .oraAbs w,
   fun _ w => .aslAbs w, fun _ w => .sloAbs w]

/-- Opcodes `$10` to `$1F` of the opcode map (R190): each from the operand bytes b1 and {b2, b1}. -/
def decodeRow1 : List (Byte → Word → Instr) :=
  [fun b _ => .bpl b, fun b _ => .oraIndy b, fun _ _ => .jam12, fun b _ => .sloIndy b, fun b _ => .nopZpx14 b,
   fun b _ => .oraZpx b, fun b _ => .aslZpx b, fun b _ => .sloZpx b, fun _ _ => .clc, fun _ w => .oraAbsy w,
   fun _ _ => .nopImp1A, fun _ w => .sloAbsy w, fun _ w => .nopAbsx1C w, fun _ w => .oraAbsx w,
   fun _ w => .aslAbsx w, fun _ w => .sloAbsx w]

/-- Opcodes `$20` to `$2F` of the opcode map (R190): each from the operand bytes b1 and {b2, b1}. -/
def decodeRow2 : List (Byte → Word → Instr) :=
  [fun _ w => .jsr w, fun b _ => .andIndx b, fun _ _ => .jam22, fun b _ => .rlaIndx b, fun b _ => .bitZp b,
   fun b _ => .andZp b, fun b _ => .rolZp b, fun b _ => .rlaZp b, fun _ _ => .plp, fun b _ => .andImm b,
   fun _ _ => .rolAcc, fun b _ => .ancImm2B b, fun _ w => .bitAbs w, fun _ w => .andAbs w,
   fun _ w => .rolAbs w, fun _ w => .rlaAbs w]

/-- Opcodes `$30` to `$3F` of the opcode map (R190): each from the operand bytes b1 and {b2, b1}. -/
def decodeRow3 : List (Byte → Word → Instr) :=
  [fun b _ => .bmi b, fun b _ => .andIndy b, fun _ _ => .jam32, fun b _ => .rlaIndy b, fun b _ => .nopZpx34 b,
   fun b _ => .andZpx b, fun b _ => .rolZpx b, fun b _ => .rlaZpx b, fun _ _ => .sec, fun _ w => .andAbsy w,
   fun _ _ => .nopImp3A, fun _ w => .rlaAbsy w, fun _ w => .nopAbsx3C w, fun _ w => .andAbsx w,
   fun _ w => .rolAbsx w, fun _ w => .rlaAbsx w]

/-- Opcodes `$40` to `$4F` of the opcode map (R190): each from the operand bytes b1 and {b2, b1}. -/
def decodeRow4 : List (Byte → Word → Instr) :=
  [fun _ _ => .rti, fun b _ => .eorIndx b, fun _ _ => .jam42, fun b _ => .sreIndx b, fun b _ => .nopZp44 b,
   fun b _ => .eorZp b, fun b _ => .lsrZp b, fun b _ => .sreZp b, fun _ _ => .pha, fun b _ => .eorImm b,
   fun _ _ => .lsrAcc, fun b _ => .alr b, fun _ w => .jmpAbs w, fun _ w => .eorAbs w, fun _ w => .lsrAbs w,
   fun _ w => .sreAbs w]

/-- Opcodes `$50` to `$5F` of the opcode map (R190): each from the operand bytes b1 and {b2, b1}. -/
def decodeRow5 : List (Byte → Word → Instr) :=
  [fun b _ => .bvc b, fun b _ => .eorIndy b, fun _ _ => .jam52, fun b _ => .sreIndy b, fun b _ => .nopZpx54 b,
   fun b _ => .eorZpx b, fun b _ => .lsrZpx b, fun b _ => .sreZpx b, fun _ _ => .cli, fun _ w => .eorAbsy w,
   fun _ _ => .nopImp5A, fun _ w => .sreAbsy w, fun _ w => .nopAbsx5C w, fun _ w => .eorAbsx w,
   fun _ w => .lsrAbsx w, fun _ w => .sreAbsx w]

/-- Opcodes `$60` to `$6F` of the opcode map (R190): each from the operand bytes b1 and {b2, b1}. -/
def decodeRow6 : List (Byte → Word → Instr) :=
  [fun _ _ => .rts, fun b _ => .adcIndx b, fun _ _ => .jam62, fun b _ => .rraIndx b, fun b _ => .nopZp64 b,
   fun b _ => .adcZp b, fun b _ => .rorZp b, fun b _ => .rraZp b, fun _ _ => .pla, fun b _ => .adcImm b,
   fun _ _ => .rorAcc, fun b _ => .arr b, fun _ w => .jmpInd w, fun _ w => .adcAbs w, fun _ w => .rorAbs w,
   fun _ w => .rraAbs w]

/-- Opcodes `$70` to `$7F` of the opcode map (R190): each from the operand bytes b1 and {b2, b1}. -/
def decodeRow7 : List (Byte → Word → Instr) :=
  [fun b _ => .bvs b, fun b _ => .adcIndy b, fun _ _ => .jam72, fun b _ => .rraIndy b, fun b _ => .nopZpx74 b,
   fun b _ => .adcZpx b, fun b _ => .rorZpx b, fun b _ => .rraZpx b, fun _ _ => .sei, fun _ w => .adcAbsy w,
   fun _ _ => .nopImp7A, fun _ w => .rraAbsy w, fun _ w => .nopAbsx7C w, fun _ w => .adcAbsx w,
   fun _ w => .rorAbsx w, fun _ w => .rraAbsx w]

/-- Opcodes `$80` to `$8F` of the opcode map (R190): each from the operand bytes b1 and {b2, b1}. -/
def decodeRow8 : List (Byte → Word → Instr) :=
  [fun b _ => .nopImm80 b, fun b _ => .staIndx b, fun b _ => .nopImm82 b, fun b _ => .saxIndx b,
   fun b _ => .styZp b, fun b _ => .staZp b, fun b _ => .stxZp b, fun b _ => .saxZp b, fun _ _ => .dey,
   fun b _ => .nopImm89 b, fun _ _ => .txa, fun _ _ => .ane, fun _ w => .styAbs w, fun _ w => .staAbs w,
   fun _ w => .stxAbs w, fun _ w => .saxAbs w]

/-- Opcodes `$90` to `$9F` of the opcode map (R190): each from the operand bytes b1 and {b2, b1}. -/
def decodeRow9 : List (Byte → Word → Instr) :=
  [fun b _ => .bcc b, fun b _ => .staIndy b, fun _ _ => .jam92, fun _ _ => .shaIndy, fun b _ => .styZpx b,
   fun b _ => .staZpx b, fun b _ => .stxZpy b, fun b _ => .saxZpy b, fun _ _ => .tya, fun _ w => .staAbsy w,
   fun _ _ => .txs, fun _ _ => .shs, fun _ _ => .shy, fun _ w => .staAbsx w, fun _ _ => .shx,
   fun _ _ => .shaAbsy]

/-- Opcodes `$A0` to `$AF` of the opcode map (R190): each from the operand bytes b1 and {b2, b1}. -/
def decodeRowA : List (Byte → Word → Instr) :=
  [fun b _ => .ldyImm b, fun b _ => .ldaIndx b, fun b _ => .ldxImm b, fun b _ => .laxIndx b,
   fun b _ => .ldyZp b, fun b _ => .ldaZp b, fun b _ => .ldxZp b, fun b _ => .laxZp b, fun _ _ => .tay,
   fun b _ => .ldaImm b, fun _ _ => .tax, fun _ _ => .lxa, fun _ w => .ldyAbs w, fun _ w => .ldaAbs w,
   fun _ w => .ldxAbs w, fun _ w => .laxAbs w]

/-- Opcodes `$B0` to `$BF` of the opcode map (R190): each from the operand bytes b1 and {b2, b1}. -/
def decodeRowB : List (Byte → Word → Instr) :=
  [fun b _ => .bcs b, fun b _ => .ldaIndy b, fun _ _ => .jamB2, fun b _ => .laxIndy b, fun b _ => .ldyZpx b,
   fun b _ => .ldaZpx b, fun b _ => .ldxZpy b, fun b _ => .laxZpy b, fun _ _ => .clv, fun _ w => .ldaAbsy w,
   fun _ _ => .tsx, fun _ w => .las w, fun _ w => .ldyAbsx w, fun _ w => .ldaAbsx w, fun _ w => .ldxAbsy w,
   fun _ w => .laxAbsy w]

/-- Opcodes `$C0` to `$CF` of the opcode map (R190): each from the operand bytes b1 and {b2, b1}. -/
def decodeRowC : List (Byte → Word → Instr) :=
  [fun b _ => .cpyImm b, fun b _ => .cmpIndx b, fun b _ => .nopImmC2 b, fun b _ => .dcpIndx b,
   fun b _ => .cpyZp b, fun b _ => .cmpZp b, fun b _ => .decZp b, fun b _ => .dcpZp b, fun _ _ => .iny,
   fun b _ => .cmpImm b, fun _ _ => .dex, fun b _ => .axs b, fun _ w => .cpyAbs w, fun _ w => .cmpAbs w,
   fun _ w => .decAbs w, fun _ w => .dcpAbs w]

/-- Opcodes `$D0` to `$DF` of the opcode map (R190): each from the operand bytes b1 and {b2, b1}. -/
def decodeRowD : List (Byte → Word → Instr) :=
  [fun b _ => .bne b, fun b _ => .cmpIndy b, fun _ _ => .jamD2, fun b _ => .dcpIndy b, fun b _ => .nopZpxD4 b,
   fun b _ => .cmpZpx b, fun b _ => .decZpx b, fun b _ => .dcpZpx b, fun _ _ => .cld, fun _ w => .cmpAbsy w,
   fun _ _ => .nopImpDA, fun _ w => .dcpAbsy w, fun _ w => .nopAbsxDC w, fun _ w => .cmpAbsx w,
   fun _ w => .decAbsx w, fun _ w => .dcpAbsx w]

/-- Opcodes `$E0` to `$EF` of the opcode map (R190): each from the operand bytes b1 and {b2, b1}. -/
def decodeRowE : List (Byte → Word → Instr) :=
  [fun b _ => .cpxImm b, fun b _ => .sbcIndx b, fun b _ => .nopImmE2 b, fun b _ => .iscIndx b,
   fun b _ => .cpxZp b, fun b _ => .sbcZp b, fun b _ => .incZp b, fun b _ => .iscZp b, fun _ _ => .inx,
   fun b _ => .sbcImm b, fun _ _ => .nop, fun b _ => .sbcImmEB b, fun _ w => .cpxAbs w, fun _ w => .sbcAbs w,
   fun _ w => .incAbs w, fun _ w => .iscAbs w]

/-- Opcodes `$F0` to `$FF` of the opcode map (R190): each from the operand bytes b1 and {b2, b1}. -/
def decodeRowF : List (Byte → Word → Instr) :=
  [fun b _ => .beq b, fun b _ => .sbcIndy b, fun _ _ => .jamF2, fun b _ => .iscIndy b, fun b _ => .nopZpxF4 b,
   fun b _ => .sbcZpx b, fun b _ => .incZpx b, fun b _ => .iscZpx b, fun _ _ => .sed, fun _ w => .sbcAbsy w,
   fun _ _ => .nopImpFA, fun _ w => .iscAbsy w, fun _ w => .nopAbsxFC w, fun _ w => .sbcAbsx w,
   fun _ w => .incAbsx w, fun _ w => .iscAbsx w]

/-- The opcode map (R190), row by row of the high nibble. -/
def decodeTable : List (Byte → Word → Instr) :=
  decodeRow0 ++ decodeRow1 ++ decodeRow2 ++ decodeRow3 ++ decodeRow4 ++ decodeRow5 ++ decodeRow6 ++ decodeRow7 ++
  (decodeRow8 ++ decodeRow9 ++ decodeRowA ++ decodeRowB ++ decodeRowC ++ decodeRowD ++ decodeRowE ++ decodeRowF)

/-- The map has a row for every opcode byte (R4). -/
theorem decodeTable_length : decodeTable.length = 256 := by
  simp only [decodeTable, List.length_append]
  decide

/-- The instruction of an opcode byte with the operand bytes b1 and b2 (R160, R162): b1 is the one-byte operand,
`{b2, b1}` the two-byte one. An operand byte the mode does not have is not looked at. -/
def decodeOp (op b1 b2 : Byte) : Instr :=
  (decodeTable[op.toNat]'(by rw [decodeTable_length]; exact op.isLt)) b1 (Machine.word b2 b1)

/-- A row of spec/opcode_table.json without its cycle count: opcode byte, mnemonic, addressing mode (for a halting
opcode the nominal one), and whether the opcode halts. -/
structure OpRow where
  opcode : Byte
  mnemonic : Mnemonic
  mode : Mode
  halts : Bool
  deriving DecidableEq, Repr

/-- The table's row of each instruction (R190, R191). -/
def Instr.row : Instr → OpRow
  | .brk => ⟨0x00, .brk, .imp, false⟩
  | .oraIndx _ => ⟨0x01, .ora, .indx, false⟩
  | .jam02 => ⟨0x02, .jam, .imp, true⟩
  | .sloIndx _ => ⟨0x03, .slo, .indx, false⟩
  | .nopZp04 _ => ⟨0x04, .nop, .zp, false⟩
  | .oraZp _ => ⟨0x05, .ora, .zp, false⟩
  | .aslZp _ => ⟨0x06, .asl, .zp, false⟩
  | .sloZp _ => ⟨0x07, .slo, .zp, false⟩
  | .php => ⟨0x08, .php, .imp, false⟩
  | .oraImm _ => ⟨0x09, .ora, .imm, false⟩
  | .aslAcc => ⟨0x0A, .asl, .acc, false⟩
  | .ancImm0B _ => ⟨0x0B, .anc, .imm, false⟩
  | .nopAbs0C _ => ⟨0x0C, .nop, .abs, false⟩
  | .oraAbs _ => ⟨0x0D, .ora, .abs, false⟩
  | .aslAbs _ => ⟨0x0E, .asl, .abs, false⟩
  | .sloAbs _ => ⟨0x0F, .slo, .abs, false⟩
  | .bpl _ => ⟨0x10, .bpl, .rel, false⟩
  | .oraIndy _ => ⟨0x11, .ora, .indy, false⟩
  | .jam12 => ⟨0x12, .jam, .imp, true⟩
  | .sloIndy _ => ⟨0x13, .slo, .indy, false⟩
  | .nopZpx14 _ => ⟨0x14, .nop, .zpx, false⟩
  | .oraZpx _ => ⟨0x15, .ora, .zpx, false⟩
  | .aslZpx _ => ⟨0x16, .asl, .zpx, false⟩
  | .sloZpx _ => ⟨0x17, .slo, .zpx, false⟩
  | .clc => ⟨0x18, .clc, .imp, false⟩
  | .oraAbsy _ => ⟨0x19, .ora, .absy, false⟩
  | .nopImp1A => ⟨0x1A, .nop, .imp, false⟩
  | .sloAbsy _ => ⟨0x1B, .slo, .absy, false⟩
  | .nopAbsx1C _ => ⟨0x1C, .nop, .absx, false⟩
  | .oraAbsx _ => ⟨0x1D, .ora, .absx, false⟩
  | .aslAbsx _ => ⟨0x1E, .asl, .absx, false⟩
  | .sloAbsx _ => ⟨0x1F, .slo, .absx, false⟩
  | .jsr _ => ⟨0x20, .jsr, .abs, false⟩
  | .andIndx _ => ⟨0x21, .and, .indx, false⟩
  | .jam22 => ⟨0x22, .jam, .imp, true⟩
  | .rlaIndx _ => ⟨0x23, .rla, .indx, false⟩
  | .bitZp _ => ⟨0x24, .bit, .zp, false⟩
  | .andZp _ => ⟨0x25, .and, .zp, false⟩
  | .rolZp _ => ⟨0x26, .rol, .zp, false⟩
  | .rlaZp _ => ⟨0x27, .rla, .zp, false⟩
  | .plp => ⟨0x28, .plp, .imp, false⟩
  | .andImm _ => ⟨0x29, .and, .imm, false⟩
  | .rolAcc => ⟨0x2A, .rol, .acc, false⟩
  | .ancImm2B _ => ⟨0x2B, .anc, .imm, false⟩
  | .bitAbs _ => ⟨0x2C, .bit, .abs, false⟩
  | .andAbs _ => ⟨0x2D, .and, .abs, false⟩
  | .rolAbs _ => ⟨0x2E, .rol, .abs, false⟩
  | .rlaAbs _ => ⟨0x2F, .rla, .abs, false⟩
  | .bmi _ => ⟨0x30, .bmi, .rel, false⟩
  | .andIndy _ => ⟨0x31, .and, .indy, false⟩
  | .jam32 => ⟨0x32, .jam, .imp, true⟩
  | .rlaIndy _ => ⟨0x33, .rla, .indy, false⟩
  | .nopZpx34 _ => ⟨0x34, .nop, .zpx, false⟩
  | .andZpx _ => ⟨0x35, .and, .zpx, false⟩
  | .rolZpx _ => ⟨0x36, .rol, .zpx, false⟩
  | .rlaZpx _ => ⟨0x37, .rla, .zpx, false⟩
  | .sec => ⟨0x38, .sec, .imp, false⟩
  | .andAbsy _ => ⟨0x39, .and, .absy, false⟩
  | .nopImp3A => ⟨0x3A, .nop, .imp, false⟩
  | .rlaAbsy _ => ⟨0x3B, .rla, .absy, false⟩
  | .nopAbsx3C _ => ⟨0x3C, .nop, .absx, false⟩
  | .andAbsx _ => ⟨0x3D, .and, .absx, false⟩
  | .rolAbsx _ => ⟨0x3E, .rol, .absx, false⟩
  | .rlaAbsx _ => ⟨0x3F, .rla, .absx, false⟩
  | .rti => ⟨0x40, .rti, .imp, false⟩
  | .eorIndx _ => ⟨0x41, .eor, .indx, false⟩
  | .jam42 => ⟨0x42, .jam, .imp, true⟩
  | .sreIndx _ => ⟨0x43, .sre, .indx, false⟩
  | .nopZp44 _ => ⟨0x44, .nop, .zp, false⟩
  | .eorZp _ => ⟨0x45, .eor, .zp, false⟩
  | .lsrZp _ => ⟨0x46, .lsr, .zp, false⟩
  | .sreZp _ => ⟨0x47, .sre, .zp, false⟩
  | .pha => ⟨0x48, .pha, .imp, false⟩
  | .eorImm _ => ⟨0x49, .eor, .imm, false⟩
  | .lsrAcc => ⟨0x4A, .lsr, .acc, false⟩
  | .alr _ => ⟨0x4B, .alr, .imm, false⟩
  | .jmpAbs _ => ⟨0x4C, .jmp, .abs, false⟩
  | .eorAbs _ => ⟨0x4D, .eor, .abs, false⟩
  | .lsrAbs _ => ⟨0x4E, .lsr, .abs, false⟩
  | .sreAbs _ => ⟨0x4F, .sre, .abs, false⟩
  | .bvc _ => ⟨0x50, .bvc, .rel, false⟩
  | .eorIndy _ => ⟨0x51, .eor, .indy, false⟩
  | .jam52 => ⟨0x52, .jam, .imp, true⟩
  | .sreIndy _ => ⟨0x53, .sre, .indy, false⟩
  | .nopZpx54 _ => ⟨0x54, .nop, .zpx, false⟩
  | .eorZpx _ => ⟨0x55, .eor, .zpx, false⟩
  | .lsrZpx _ => ⟨0x56, .lsr, .zpx, false⟩
  | .sreZpx _ => ⟨0x57, .sre, .zpx, false⟩
  | .cli => ⟨0x58, .cli, .imp, false⟩
  | .eorAbsy _ => ⟨0x59, .eor, .absy, false⟩
  | .nopImp5A => ⟨0x5A, .nop, .imp, false⟩
  | .sreAbsy _ => ⟨0x5B, .sre, .absy, false⟩
  | .nopAbsx5C _ => ⟨0x5C, .nop, .absx, false⟩
  | .eorAbsx _ => ⟨0x5D, .eor, .absx, false⟩
  | .lsrAbsx _ => ⟨0x5E, .lsr, .absx, false⟩
  | .sreAbsx _ => ⟨0x5F, .sre, .absx, false⟩
  | .rts => ⟨0x60, .rts, .imp, false⟩
  | .adcIndx _ => ⟨0x61, .adc, .indx, false⟩
  | .jam62 => ⟨0x62, .jam, .imp, true⟩
  | .rraIndx _ => ⟨0x63, .rra, .indx, false⟩
  | .nopZp64 _ => ⟨0x64, .nop, .zp, false⟩
  | .adcZp _ => ⟨0x65, .adc, .zp, false⟩
  | .rorZp _ => ⟨0x66, .ror, .zp, false⟩
  | .rraZp _ => ⟨0x67, .rra, .zp, false⟩
  | .pla => ⟨0x68, .pla, .imp, false⟩
  | .adcImm _ => ⟨0x69, .adc, .imm, false⟩
  | .rorAcc => ⟨0x6A, .ror, .acc, false⟩
  | .arr _ => ⟨0x6B, .arr, .imm, false⟩
  | .jmpInd _ => ⟨0x6C, .jmp, .ind, false⟩
  | .adcAbs _ => ⟨0x6D, .adc, .abs, false⟩
  | .rorAbs _ => ⟨0x6E, .ror, .abs, false⟩
  | .rraAbs _ => ⟨0x6F, .rra, .abs, false⟩
  | .bvs _ => ⟨0x70, .bvs, .rel, false⟩
  | .adcIndy _ => ⟨0x71, .adc, .indy, false⟩
  | .jam72 => ⟨0x72, .jam, .imp, true⟩
  | .rraIndy _ => ⟨0x73, .rra, .indy, false⟩
  | .nopZpx74 _ => ⟨0x74, .nop, .zpx, false⟩
  | .adcZpx _ => ⟨0x75, .adc, .zpx, false⟩
  | .rorZpx _ => ⟨0x76, .ror, .zpx, false⟩
  | .rraZpx _ => ⟨0x77, .rra, .zpx, false⟩
  | .sei => ⟨0x78, .sei, .imp, false⟩
  | .adcAbsy _ => ⟨0x79, .adc, .absy, false⟩
  | .nopImp7A => ⟨0x7A, .nop, .imp, false⟩
  | .rraAbsy _ => ⟨0x7B, .rra, .absy, false⟩
  | .nopAbsx7C _ => ⟨0x7C, .nop, .absx, false⟩
  | .adcAbsx _ => ⟨0x7D, .adc, .absx, false⟩
  | .rorAbsx _ => ⟨0x7E, .ror, .absx, false⟩
  | .rraAbsx _ => ⟨0x7F, .rra, .absx, false⟩
  | .nopImm80 _ => ⟨0x80, .nop, .imm, false⟩
  | .staIndx _ => ⟨0x81, .sta, .indx, false⟩
  | .nopImm82 _ => ⟨0x82, .nop, .imm, false⟩
  | .saxIndx _ => ⟨0x83, .sax, .indx, false⟩
  | .styZp _ => ⟨0x84, .sty, .zp, false⟩
  | .staZp _ => ⟨0x85, .sta, .zp, false⟩
  | .stxZp _ => ⟨0x86, .stx, .zp, false⟩
  | .saxZp _ => ⟨0x87, .sax, .zp, false⟩
  | .dey => ⟨0x88, .dey, .imp, false⟩
  | .nopImm89 _ => ⟨0x89, .nop, .imm, false⟩
  | .txa => ⟨0x8A, .txa, .imp, false⟩
  | .ane => ⟨0x8B, .ane, .imm, true⟩
  | .styAbs _ => ⟨0x8C, .sty, .abs, false⟩
  | .staAbs _ => ⟨0x8D, .sta, .abs, false⟩
  | .stxAbs _ => ⟨0x8E, .stx, .abs, false⟩
  | .saxAbs _ => ⟨0x8F, .sax, .abs, false⟩
  | .bcc _ => ⟨0x90, .bcc, .rel, false⟩
  | .staIndy _ => ⟨0x91, .sta, .indy, false⟩
  | .jam92 => ⟨0x92, .jam, .imp, true⟩
  | .shaIndy => ⟨0x93, .sha, .indy, true⟩
  | .styZpx _ => ⟨0x94, .sty, .zpx, false⟩
  | .staZpx _ => ⟨0x95, .sta, .zpx, false⟩
  | .stxZpy _ => ⟨0x96, .stx, .zpy, false⟩
  | .saxZpy _ => ⟨0x97, .sax, .zpy, false⟩
  | .tya => ⟨0x98, .tya, .imp, false⟩
  | .staAbsy _ => ⟨0x99, .sta, .absy, false⟩
  | .txs => ⟨0x9A, .txs, .imp, false⟩
  | .shs => ⟨0x9B, .shs, .absy, true⟩
  | .shy => ⟨0x9C, .shy, .absx, true⟩
  | .staAbsx _ => ⟨0x9D, .sta, .absx, false⟩
  | .shx => ⟨0x9E, .shx, .absy, true⟩
  | .shaAbsy => ⟨0x9F, .sha, .absy, true⟩
  | .ldyImm _ => ⟨0xA0, .ldy, .imm, false⟩
  | .ldaIndx _ => ⟨0xA1, .lda, .indx, false⟩
  | .ldxImm _ => ⟨0xA2, .ldx, .imm, false⟩
  | .laxIndx _ => ⟨0xA3, .lax, .indx, false⟩
  | .ldyZp _ => ⟨0xA4, .ldy, .zp, false⟩
  | .ldaZp _ => ⟨0xA5, .lda, .zp, false⟩
  | .ldxZp _ => ⟨0xA6, .ldx, .zp, false⟩
  | .laxZp _ => ⟨0xA7, .lax, .zp, false⟩
  | .tay => ⟨0xA8, .tay, .imp, false⟩
  | .ldaImm _ => ⟨0xA9, .lda, .imm, false⟩
  | .tax => ⟨0xAA, .tax, .imp, false⟩
  | .lxa => ⟨0xAB, .lxa, .imm, true⟩
  | .ldyAbs _ => ⟨0xAC, .ldy, .abs, false⟩
  | .ldaAbs _ => ⟨0xAD, .lda, .abs, false⟩
  | .ldxAbs _ => ⟨0xAE, .ldx, .abs, false⟩
  | .laxAbs _ => ⟨0xAF, .lax, .abs, false⟩
  | .bcs _ => ⟨0xB0, .bcs, .rel, false⟩
  | .ldaIndy _ => ⟨0xB1, .lda, .indy, false⟩
  | .jamB2 => ⟨0xB2, .jam, .imp, true⟩
  | .laxIndy _ => ⟨0xB3, .lax, .indy, false⟩
  | .ldyZpx _ => ⟨0xB4, .ldy, .zpx, false⟩
  | .ldaZpx _ => ⟨0xB5, .lda, .zpx, false⟩
  | .ldxZpy _ => ⟨0xB6, .ldx, .zpy, false⟩
  | .laxZpy _ => ⟨0xB7, .lax, .zpy, false⟩
  | .clv => ⟨0xB8, .clv, .imp, false⟩
  | .ldaAbsy _ => ⟨0xB9, .lda, .absy, false⟩
  | .tsx => ⟨0xBA, .tsx, .imp, false⟩
  | .las _ => ⟨0xBB, .las, .absy, false⟩
  | .ldyAbsx _ => ⟨0xBC, .ldy, .absx, false⟩
  | .ldaAbsx _ => ⟨0xBD, .lda, .absx, false⟩
  | .ldxAbsy _ => ⟨0xBE, .ldx, .absy, false⟩
  | .laxAbsy _ => ⟨0xBF, .lax, .absy, false⟩
  | .cpyImm _ => ⟨0xC0, .cpy, .imm, false⟩
  | .cmpIndx _ => ⟨0xC1, .cmp, .indx, false⟩
  | .nopImmC2 _ => ⟨0xC2, .nop, .imm, false⟩
  | .dcpIndx _ => ⟨0xC3, .dcp, .indx, false⟩
  | .cpyZp _ => ⟨0xC4, .cpy, .zp, false⟩
  | .cmpZp _ => ⟨0xC5, .cmp, .zp, false⟩
  | .decZp _ => ⟨0xC6, .dec, .zp, false⟩
  | .dcpZp _ => ⟨0xC7, .dcp, .zp, false⟩
  | .iny => ⟨0xC8, .iny, .imp, false⟩
  | .cmpImm _ => ⟨0xC9, .cmp, .imm, false⟩
  | .dex => ⟨0xCA, .dex, .imp, false⟩
  | .axs _ => ⟨0xCB, .axs, .imm, false⟩
  | .cpyAbs _ => ⟨0xCC, .cpy, .abs, false⟩
  | .cmpAbs _ => ⟨0xCD, .cmp, .abs, false⟩
  | .decAbs _ => ⟨0xCE, .dec, .abs, false⟩
  | .dcpAbs _ => ⟨0xCF, .dcp, .abs, false⟩
  | .bne _ => ⟨0xD0, .bne, .rel, false⟩
  | .cmpIndy _ => ⟨0xD1, .cmp, .indy, false⟩
  | .jamD2 => ⟨0xD2, .jam, .imp, true⟩
  | .dcpIndy _ => ⟨0xD3, .dcp, .indy, false⟩
  | .nopZpxD4 _ => ⟨0xD4, .nop, .zpx, false⟩
  | .cmpZpx _ => ⟨0xD5, .cmp, .zpx, false⟩
  | .decZpx _ => ⟨0xD6, .dec, .zpx, false⟩
  | .dcpZpx _ => ⟨0xD7, .dcp, .zpx, false⟩
  | .cld => ⟨0xD8, .cld, .imp, false⟩
  | .cmpAbsy _ => ⟨0xD9, .cmp, .absy, false⟩
  | .nopImpDA => ⟨0xDA, .nop, .imp, false⟩
  | .dcpAbsy _ => ⟨0xDB, .dcp, .absy, false⟩
  | .nopAbsxDC _ => ⟨0xDC, .nop, .absx, false⟩
  | .cmpAbsx _ => ⟨0xDD, .cmp, .absx, false⟩
  | .decAbsx _ => ⟨0xDE, .dec, .absx, false⟩
  | .dcpAbsx _ => ⟨0xDF, .dcp, .absx, false⟩
  | .cpxImm _ => ⟨0xE0, .cpx, .imm, false⟩
  | .sbcIndx _ => ⟨0xE1, .sbc, .indx, false⟩
  | .nopImmE2 _ => ⟨0xE2, .nop, .imm, false⟩
  | .iscIndx _ => ⟨0xE3, .isc, .indx, false⟩
  | .cpxZp _ => ⟨0xE4, .cpx, .zp, false⟩
  | .sbcZp _ => ⟨0xE5, .sbc, .zp, false⟩
  | .incZp _ => ⟨0xE6, .inc, .zp, false⟩
  | .iscZp _ => ⟨0xE7, .isc, .zp, false⟩
  | .inx => ⟨0xE8, .inx, .imp, false⟩
  | .sbcImm _ => ⟨0xE9, .sbc, .imm, false⟩
  | .nop => ⟨0xEA, .nop, .imp, false⟩
  | .sbcImmEB _ => ⟨0xEB, .sbc, .imm, false⟩
  | .cpxAbs _ => ⟨0xEC, .cpx, .abs, false⟩
  | .sbcAbs _ => ⟨0xED, .sbc, .abs, false⟩
  | .incAbs _ => ⟨0xEE, .inc, .abs, false⟩
  | .iscAbs _ => ⟨0xEF, .isc, .abs, false⟩
  | .beq _ => ⟨0xF0, .beq, .rel, false⟩
  | .sbcIndy _ => ⟨0xF1, .sbc, .indy, false⟩
  | .jamF2 => ⟨0xF2, .jam, .imp, true⟩
  | .iscIndy _ => ⟨0xF3, .isc, .indy, false⟩
  | .nopZpxF4 _ => ⟨0xF4, .nop, .zpx, false⟩
  | .sbcZpx _ => ⟨0xF5, .sbc, .zpx, false⟩
  | .incZpx _ => ⟨0xF6, .inc, .zpx, false⟩
  | .iscZpx _ => ⟨0xF7, .isc, .zpx, false⟩
  | .sed => ⟨0xF8, .sed, .imp, false⟩
  | .sbcAbsy _ => ⟨0xF9, .sbc, .absy, false⟩
  | .nopImpFA => ⟨0xFA, .nop, .imp, false⟩
  | .iscAbsy _ => ⟨0xFB, .isc, .absy, false⟩
  | .nopAbsxFC _ => ⟨0xFC, .nop, .absx, false⟩
  | .sbcAbsx _ => ⟨0xFD, .sbc, .absx, false⟩
  | .incAbsx _ => ⟨0xFE, .inc, .absx, false⟩
  | .iscAbsx _ => ⟨0xFF, .isc, .absx, false⟩

/-- The operand an instruction carries (R162). A halting opcode has none (R226). -/
def Instr.operand : Instr → Operand
  | .brk => .implied
  | .oraIndx b => .memory (.indx b)
  | .jam02 => .implied
  | .sloIndx b => .memory (.indx b)
  | .nopZp04 b => .memory (.zp b)
  | .oraZp b => .memory (.zp b)
  | .aslZp b => .memory (.zp b)
  | .sloZp b => .memory (.zp b)
  | .php => .implied
  | .oraImm b => .immediate b
  | .aslAcc => .accumulator
  | .ancImm0B b => .immediate b
  | .nopAbs0C w => .memory (.abs w)
  | .oraAbs w => .memory (.abs w)
  | .aslAbs w => .memory (.abs w)
  | .sloAbs w => .memory (.abs w)
  | .bpl b => .relative b
  | .oraIndy b => .memory (.indy b)
  | .jam12 => .implied
  | .sloIndy b => .memory (.indy b)
  | .nopZpx14 b => .memory (.zpx b)
  | .oraZpx b => .memory (.zpx b)
  | .aslZpx b => .memory (.zpx b)
  | .sloZpx b => .memory (.zpx b)
  | .clc => .implied
  | .oraAbsy w => .memory (.absy w)
  | .nopImp1A => .implied
  | .sloAbsy w => .memory (.absy w)
  | .nopAbsx1C w => .memory (.absx w)
  | .oraAbsx w => .memory (.absx w)
  | .aslAbsx w => .memory (.absx w)
  | .sloAbsx w => .memory (.absx w)
  | .jsr w => .memory (.abs w)
  | .andIndx b => .memory (.indx b)
  | .jam22 => .implied
  | .rlaIndx b => .memory (.indx b)
  | .bitZp b => .memory (.zp b)
  | .andZp b => .memory (.zp b)
  | .rolZp b => .memory (.zp b)
  | .rlaZp b => .memory (.zp b)
  | .plp => .implied
  | .andImm b => .immediate b
  | .rolAcc => .accumulator
  | .ancImm2B b => .immediate b
  | .bitAbs w => .memory (.abs w)
  | .andAbs w => .memory (.abs w)
  | .rolAbs w => .memory (.abs w)
  | .rlaAbs w => .memory (.abs w)
  | .bmi b => .relative b
  | .andIndy b => .memory (.indy b)
  | .jam32 => .implied
  | .rlaIndy b => .memory (.indy b)
  | .nopZpx34 b => .memory (.zpx b)
  | .andZpx b => .memory (.zpx b)
  | .rolZpx b => .memory (.zpx b)
  | .rlaZpx b => .memory (.zpx b)
  | .sec => .implied
  | .andAbsy w => .memory (.absy w)
  | .nopImp3A => .implied
  | .rlaAbsy w => .memory (.absy w)
  | .nopAbsx3C w => .memory (.absx w)
  | .andAbsx w => .memory (.absx w)
  | .rolAbsx w => .memory (.absx w)
  | .rlaAbsx w => .memory (.absx w)
  | .rti => .implied
  | .eorIndx b => .memory (.indx b)
  | .jam42 => .implied
  | .sreIndx b => .memory (.indx b)
  | .nopZp44 b => .memory (.zp b)
  | .eorZp b => .memory (.zp b)
  | .lsrZp b => .memory (.zp b)
  | .sreZp b => .memory (.zp b)
  | .pha => .implied
  | .eorImm b => .immediate b
  | .lsrAcc => .accumulator
  | .alr b => .immediate b
  | .jmpAbs w => .memory (.abs w)
  | .eorAbs w => .memory (.abs w)
  | .lsrAbs w => .memory (.abs w)
  | .sreAbs w => .memory (.abs w)
  | .bvc b => .relative b
  | .eorIndy b => .memory (.indy b)
  | .jam52 => .implied
  | .sreIndy b => .memory (.indy b)
  | .nopZpx54 b => .memory (.zpx b)
  | .eorZpx b => .memory (.zpx b)
  | .lsrZpx b => .memory (.zpx b)
  | .sreZpx b => .memory (.zpx b)
  | .cli => .implied
  | .eorAbsy w => .memory (.absy w)
  | .nopImp5A => .implied
  | .sreAbsy w => .memory (.absy w)
  | .nopAbsx5C w => .memory (.absx w)
  | .eorAbsx w => .memory (.absx w)
  | .lsrAbsx w => .memory (.absx w)
  | .sreAbsx w => .memory (.absx w)
  | .rts => .implied
  | .adcIndx b => .memory (.indx b)
  | .jam62 => .implied
  | .rraIndx b => .memory (.indx b)
  | .nopZp64 b => .memory (.zp b)
  | .adcZp b => .memory (.zp b)
  | .rorZp b => .memory (.zp b)
  | .rraZp b => .memory (.zp b)
  | .pla => .implied
  | .adcImm b => .immediate b
  | .rorAcc => .accumulator
  | .arr b => .immediate b
  | .jmpInd w => .memory (.ind w)
  | .adcAbs w => .memory (.abs w)
  | .rorAbs w => .memory (.abs w)
  | .rraAbs w => .memory (.abs w)
  | .bvs b => .relative b
  | .adcIndy b => .memory (.indy b)
  | .jam72 => .implied
  | .rraIndy b => .memory (.indy b)
  | .nopZpx74 b => .memory (.zpx b)
  | .adcZpx b => .memory (.zpx b)
  | .rorZpx b => .memory (.zpx b)
  | .rraZpx b => .memory (.zpx b)
  | .sei => .implied
  | .adcAbsy w => .memory (.absy w)
  | .nopImp7A => .implied
  | .rraAbsy w => .memory (.absy w)
  | .nopAbsx7C w => .memory (.absx w)
  | .adcAbsx w => .memory (.absx w)
  | .rorAbsx w => .memory (.absx w)
  | .rraAbsx w => .memory (.absx w)
  | .nopImm80 b => .immediate b
  | .staIndx b => .memory (.indx b)
  | .nopImm82 b => .immediate b
  | .saxIndx b => .memory (.indx b)
  | .styZp b => .memory (.zp b)
  | .staZp b => .memory (.zp b)
  | .stxZp b => .memory (.zp b)
  | .saxZp b => .memory (.zp b)
  | .dey => .implied
  | .nopImm89 b => .immediate b
  | .txa => .implied
  | .ane => .implied
  | .styAbs w => .memory (.abs w)
  | .staAbs w => .memory (.abs w)
  | .stxAbs w => .memory (.abs w)
  | .saxAbs w => .memory (.abs w)
  | .bcc b => .relative b
  | .staIndy b => .memory (.indy b)
  | .jam92 => .implied
  | .shaIndy => .implied
  | .styZpx b => .memory (.zpx b)
  | .staZpx b => .memory (.zpx b)
  | .stxZpy b => .memory (.zpy b)
  | .saxZpy b => .memory (.zpy b)
  | .tya => .implied
  | .staAbsy w => .memory (.absy w)
  | .txs => .implied
  | .shs => .implied
  | .shy => .implied
  | .staAbsx w => .memory (.absx w)
  | .shx => .implied
  | .shaAbsy => .implied
  | .ldyImm b => .immediate b
  | .ldaIndx b => .memory (.indx b)
  | .ldxImm b => .immediate b
  | .laxIndx b => .memory (.indx b)
  | .ldyZp b => .memory (.zp b)
  | .ldaZp b => .memory (.zp b)
  | .ldxZp b => .memory (.zp b)
  | .laxZp b => .memory (.zp b)
  | .tay => .implied
  | .ldaImm b => .immediate b
  | .tax => .implied
  | .lxa => .implied
  | .ldyAbs w => .memory (.abs w)
  | .ldaAbs w => .memory (.abs w)
  | .ldxAbs w => .memory (.abs w)
  | .laxAbs w => .memory (.abs w)
  | .bcs b => .relative b
  | .ldaIndy b => .memory (.indy b)
  | .jamB2 => .implied
  | .laxIndy b => .memory (.indy b)
  | .ldyZpx b => .memory (.zpx b)
  | .ldaZpx b => .memory (.zpx b)
  | .ldxZpy b => .memory (.zpy b)
  | .laxZpy b => .memory (.zpy b)
  | .clv => .implied
  | .ldaAbsy w => .memory (.absy w)
  | .tsx => .implied
  | .las w => .memory (.absy w)
  | .ldyAbsx w => .memory (.absx w)
  | .ldaAbsx w => .memory (.absx w)
  | .ldxAbsy w => .memory (.absy w)
  | .laxAbsy w => .memory (.absy w)
  | .cpyImm b => .immediate b
  | .cmpIndx b => .memory (.indx b)
  | .nopImmC2 b => .immediate b
  | .dcpIndx b => .memory (.indx b)
  | .cpyZp b => .memory (.zp b)
  | .cmpZp b => .memory (.zp b)
  | .decZp b => .memory (.zp b)
  | .dcpZp b => .memory (.zp b)
  | .iny => .implied
  | .cmpImm b => .immediate b
  | .dex => .implied
  | .axs b => .immediate b
  | .cpyAbs w => .memory (.abs w)
  | .cmpAbs w => .memory (.abs w)
  | .decAbs w => .memory (.abs w)
  | .dcpAbs w => .memory (.abs w)
  | .bne b => .relative b
  | .cmpIndy b => .memory (.indy b)
  | .jamD2 => .implied
  | .dcpIndy b => .memory (.indy b)
  | .nopZpxD4 b => .memory (.zpx b)
  | .cmpZpx b => .memory (.zpx b)
  | .decZpx b => .memory (.zpx b)
  | .dcpZpx b => .memory (.zpx b)
  | .cld => .implied
  | .cmpAbsy w => .memory (.absy w)
  | .nopImpDA => .implied
  | .dcpAbsy w => .memory (.absy w)
  | .nopAbsxDC w => .memory (.absx w)
  | .cmpAbsx w => .memory (.absx w)
  | .decAbsx w => .memory (.absx w)
  | .dcpAbsx w => .memory (.absx w)
  | .cpxImm b => .immediate b
  | .sbcIndx b => .memory (.indx b)
  | .nopImmE2 b => .immediate b
  | .iscIndx b => .memory (.indx b)
  | .cpxZp b => .memory (.zp b)
  | .sbcZp b => .memory (.zp b)
  | .incZp b => .memory (.zp b)
  | .iscZp b => .memory (.zp b)
  | .inx => .implied
  | .sbcImm b => .immediate b
  | .nop => .implied
  | .sbcImmEB b => .immediate b
  | .cpxAbs w => .memory (.abs w)
  | .sbcAbs w => .memory (.abs w)
  | .incAbs w => .memory (.abs w)
  | .iscAbs w => .memory (.abs w)
  | .beq b => .relative b
  | .sbcIndy b => .memory (.indy b)
  | .jamF2 => .implied
  | .iscIndy b => .memory (.indy b)
  | .nopZpxF4 b => .memory (.zpx b)
  | .sbcZpx b => .memory (.zpx b)
  | .incZpx b => .memory (.zpx b)
  | .iscZpx b => .memory (.zpx b)
  | .sed => .implied
  | .sbcAbsy w => .memory (.absy w)
  | .nopImpFA => .implied
  | .iscAbsy w => .memory (.absy w)
  | .nopAbsxFC w => .memory (.absx w)
  | .sbcAbsx w => .memory (.absx w)
  | .incAbsx w => .memory (.absx w)
  | .iscAbsx w => .memory (.absx w)

/-- Length in bytes of a mode (R162). -/
def Mode.length : Mode → Nat
  | .imp | .acc => 1
  | .imm | .zp | .zpx | .zpy | .rel | .indx | .indy => 2
  | .abs | .absx | .absy | .ind => 3

/-- The opcode byte of an instruction (R190). -/
def Instr.opcode (i : Instr) : Byte := i.row.opcode

/-- The mnemonic of an instruction (R191). -/
def Instr.mnemonic (i : Instr) : Mnemonic := i.row.mnemonic

/-- The instruction is one of the 19 halting opcodes (R226). -/
def Instr.halts (i : Instr) : Bool := i.row.halts

/-- How many bytes the step fetches for the instruction: its mode's length (R162, R228), and for a halting opcode the
opcode byte alone (R226). -/
def Instr.length (i : Instr) : Nat := i.operand.mode.length

/-- The nominal length of the table, which a disassembler uses for a halting opcode too (R228). -/
def Instr.nominalLength (i : Instr) : Nat := i.row.mode.length

/-- The instruction as an assembler line (R229). -/
def Instr.form (i : Instr) : Form := ⟨i.mnemonic, i.operand⟩

/-- The bytes of a word operand, in fetch order: low byte, then high byte (R115, R162). -/
def wordBytes (w : Word) : List Byte := [Machine.lo8 w, Machine.hi8 w]

/-- The operand bytes of an operand in memory, in fetch order (R162). -/
def MemOperand.bytes : MemOperand → List Byte
  | .zp b | .zpx b | .zpy b | .indx b | .indy b => [b]
  | .abs w | .absx w | .absy w | .ind w => wordBytes w

/-- The operand bytes of an operand, in fetch order (R162). -/
def Operand.bytes : Operand → List Byte
  | .implied | .accumulator => []
  | .immediate b | .relative b => [b]
  | .memory m => m.bytes

/-- The bytes of an instruction in fetch order: the opcode byte, then the operand bytes (R161, R162). -/
def encode (i : Instr) : List Byte := i.opcode :: i.operand.bytes

/-- How many bytes the step fetches when the opcode byte is op (R160, R228): the opcode byte alone fixes it. -/
def fetchLength (op : Byte) : Nat := (decodeOp op 0 0).length

/-- Why a list of bytes is no instruction: it is empty, or an operand byte is missing. No opcode byte is refused. -/
inductive DecodeError where
  | noOpcode
  | operandMissing (op : Byte)
  deriving DecidableEq, Repr

/-- Decode the instruction at the head of a list of bytes, and give the rest of the list (R228). -/
def decode : List Byte → Except DecodeError (Instr × List Byte)
  | [] => .error .noOpcode
  | op :: rest =>
    let n := fetchLength op - 1
    if n ≤ rest.length then .ok (decodeOp op (rest.getD 0 0) (rest.getD 1 0), rest.drop n)
    else .error (.operandMissing op)

/-- Byte k of a number: bits 8k+7 to 8k. -/
def byteOfNat (w k : Nat) : Byte := BitVec.ofNat 8 (w / 256 ^ k)

/-- The three bytes, in address order, of an instruction whose lowest nbits bits are w's and whose further bits are 0: bit 0
of w is bit 0 of the byte at the lowest address. Three bytes is the longest instruction (R162). -/
def tableBytes (nbits w : Nat) : List Byte :=
  let v := w % 2 ^ nbits
  [byteOfNat v 0, byteOfNat v 1, byteOfNat v 2]

/-- The instruction the decoder reads from an instruction of spec/opcode_table.json whose bits are w (R190). -/
def decodeTableWord (nbits w : Nat) : Option Instr :=
  match decode (tableBytes nbits w) with
  | .ok (i, _) => some i
  | .error _ => none

/-- Every opcode byte, in order. -/
def allOpcodes : List Byte := (List.range 256).map (BitVec.ofNat 8)

/-- The instructions of a mnemonic and operand: the rows of R191 whose mnemonic and mode they are, in opcode order. More
than one where several opcode bytes are the same instruction (the undocumented NOP forms, ANC, SBC immediate). None is a halting
opcode (the model's choice, notes/assumptions/31.md). -/
def assembleAll (f : Form) : List Instr :=
  (allOpcodes.map (fun op => decodeOp op (f.operand.bytes.getD 0 0) (f.operand.bytes.getD 1 0))).filter
    (fun i => !i.halts && decide (i.form = f))

/-- The assembler's choice of the operand of an address (R229): the zero-page mode where the mnemonic has one and the
address is below $0100, else the absolute mode. `zpMode` and `absMode` are the pair of modes of the line's index. -/
def assembleDirect (m : Mnemonic) (zpMode : Byte → MemOperand) (absMode : Word → MemOperand) (addr : Word) : Form :=
  if m.modes.contains (zpMode 0).mode && addr.toNat < 0x100 then ⟨m, .memory (zpMode (Machine.lo8 addr))⟩
  else ⟨m, .memory (absMode addr)⟩

/-- The offset the assembler computes for a branch at address `at_` to `target` (R229): `target - (at_ + 2)`, which must
lie in -128..127. That the difference is taken mod 2^16, so that a branch may cross from $FFFF to $0000 as R182's target does, is the
model's choice (notes/assumptions/44.md). -/
def branchOffset (at_ target : Word) : Option Byte :=
  let d : Word := target - (at_ + 2)
  if -128 ≤ d.toInt ∧ d.toInt ≤ 127 then some (Machine.lo8 d) else none

end Sys2Proof
end

