-- ==== Sys2Proof/Machine/Memory.lean ====
section
/-! DEFINITION. A memory as plain data: a list of (address, byte) cells in one canonical form, addresses strictly rising
and no cell holding the byte an unlisted address reads as. Used for CPU RAM, PPU VRAM and sprite RAM (20_memory.md
R111, R101, R102), each with `read`, `write` and the raw byte dump of R113. -/

namespace Sys2Proof.Machine

/-- The cells of one memory. -/
abbrev Memory := List Host.Cell

/-- What an address reads as that no cell lists. DESIGN CHOICE, unsafe: the spec leaves the content after reset open
(`RamInit`, R112; R602), and the model names 0 for State.reset (notes/assumptions/2.md and 3.md). -/
def Memory.unlisted : Byte := 0

/-- The byte at address a (R113). -/
def Memory.read : Memory → Nat → Byte
  | [], _ => Memory.unlisted
  | (b, v) :: m, a => if b = a then v else Memory.read m a

/-- The cells without address a. -/
def Memory.erase (m : Memory) (a : Nat) : Memory := m.filter (fun c => c.1 != a)

/-- Put a cell before the first cell of a higher address. -/
def Memory.insert : Memory → Nat → Byte → Memory
  | [], a, v => [(a, v)]
  | c :: m, a, v => if a < c.1 then (a, v) :: c :: m else c :: Memory.insert m a v

/-- Write byte v at address a (R113), keeping the canonical form: writing what an unlisted address reads as unlists a. -/
def Memory.write (m : Memory) (a : Nat) (v : Byte) : Memory :=
  if v = Memory.unlisted then Memory.erase m a else Memory.insert (Memory.erase m a) a v

/-- Every address is above `a`. -/
def Memory.above (a : Nat) (m : Memory) : Bool := m.all (fun c => decide (a < c.1))

/-- Addresses strictly rise. -/
def Memory.rising : Memory → Bool
  | [] => true
  | c :: m => Memory.above c.1 m && Memory.rising m

/-- The canonical form of a memory of `size` bytes: addresses strictly rising and below `size`, no cell holding what an
unlisted address reads as. Equal contents are then equal lists. -/
def Memory.wf (size : Nat) (m : Memory) : Bool :=
  Memory.rising m && m.all (fun c => decide (c.1 < size) && decide (c.2 ≠ Memory.unlisted))

/-- Write consecutive bytes from address a on. -/
def Memory.load : Nat → List Byte → Memory → Memory
  | _, [], m => m
  | a, b :: bs, m => Memory.load (a + 1) bs (Memory.write m a b)

/-- The memory of `size` bytes whose content is a list of bytes, address 0 first: `deserialize` of a raw byte dump (R113),
and the content a reset gives (R112, R602). -/
def Memory.ofBytes (size : Nat) (bytes : List Byte) : Memory := Memory.load 0 (bytes.take size) []

/-- The raw byte dump of a memory of `size` bytes, address 0 first: `serialize` (R113, R114). -/
def Memory.toBytes (size : Nat) (m : Memory) : List Byte := (List.range size).map (Memory.read m)

/-- Write a list of (address, byte) pairs, the first pair first. -/
def Memory.writeAll (m : Memory) (ws : List (Nat × Byte)) : Memory := ws.foldl (fun m w => Memory.write m w.1 w.2) m

end Sys2Proof.Machine
end

