-- ==== Sys2Proof/Machine/Devices.lean ====
section
/-! DEFINITION. The devices around the CPU as plain data (60_exceptions.md R545 to R569, 20_memory.md R101 to R107): the
cartridge, the mapper, the PPU with VRAM and OAM, the APU, the button bitmasks, and the history of device events. Types
only. What the Bus does with them is Machine/Bus.lean; how they advance is Machine/Ppu.lean and Machine/Session.lean. -/

namespace Sys2Proof.Machine

/-- The nametable mirroring modes (20_memory.md R126). -/
inductive Mirroring where
  | horizontal | vertical | singleScreen | fourScreen
  deriving DecidableEq, Repr, Inhabited

/-- A parsed ROM, immutable after the parse (60_exceptions.md R569): "PRG bank array, CHR bank array, mirroring flag,
mapper ID, trainer presence, battery-backed-RAM flag". The banks stand one after the other in `prg` and `chr`. -/
structure Cartridge where
  prgBanks : Nat
  chrBanks : Nat
  prg : List Byte
  chr : List Byte
  mirroring : Mirroring
  mapperId : Nat
  trainer : Bool
  battery : Bool
  deriving DecidableEq, Repr

/-- Mapper state (R565): bank tables (which bank each window shows), bank-select registers, optional scanline IRQ counter
and latch. -/
structure MapperState where
  prgTable : List Nat
  chrTable : List Nat
  regs : List Byte
  irqCounter : Option Nat
  irqLatch : Option Nat
  deriving DecidableEq, Repr, Inhabited

/-- The PPU's states (R550); a visible scanline is 0 to 239. -/
inductive PpuPhase where
  | preRender
  | visible (line : Fin 240)
  | postRender
  | verticalBlank
  deriving DecidableEq, Repr, Inhabited

/-- The PPU's latches and flags (R551, R552; "control/mask/status latches" and scroll, 91_not_in_source.md N21, N23). The
source gives no bit positions, so the flags it names stand beside the bytes (notes/assumptions/16.md). -/
structure PpuLatches where
  control : Byte
  mask : Byte
  status : Byte
  scroll : List Byte
  vblankFlag : Bool
  nmiEnable : Bool
  spriteOverflow : Bool
  spriteZeroHit : Bool
  deriving DecidableEq, Repr, Inhabited

/-- Where the PPU stands in the frame (R545, R550): the phase, the scanline counter and the dot counter. That the scanline counter
counts the lines since the phase began is the model's choice (notes/assumptions/13.md). -/
structure PpuTiming where
  phase : PpuPhase
  scanline : Nat
  dot : Nat
  deriving DecidableEq, Repr, Inhabited

/-- The PPU (R550 to R554): timing, latches, mirroring mode (20_memory.md R128), the sprites kept for the line last
evaluated (R552), the output buffer, "a row-major integer RGB array sized to the fixed NES output resolution (256×240)" (R552),
and how many frames it has completed (R553, R554). -/
structure Ppu where
  timing : PpuTiming
  latches : PpuLatches
  mirroring : Mirroring
  lineSprites : List Nat
  pixels : Vector (Vector Nat 256) 240
  frames : Nat
  deriving DecidableEq, Repr

/-- One generator's channel record (R555): its clock divider (the APU clocks left before its next step), "timer, length counter,
envelope/sweep state as applicable", and the contribution its last step gave the mixer. -/
structure ApuChannel where
  divider : Nat
  timer : Nat
  lengthCounter : Nat
  envelope : Nat
  sweep : Nat
  contribution : Int
  deriving DecidableEq, Repr, Inhabited

/-- The five generators (R555): pulse×2, triangle, noise, delta-modulation channel. -/
inductive Generator where
  | pulse1 | pulse2 | triangle | noise | dmc
  deriving DecidableEq, Repr

/-- The channel records of the five generators (R555). -/
structure ApuChannels where
  pulse1 : ApuChannel
  pulse2 : ApuChannel
  triangle : ApuChannel
  noise : ApuChannel
  dmc : ApuChannel
  deriving DecidableEq, Repr, Inhabited

/-- The APU (R555): its channels, whether it is started, and its PCM output buffer. `clock` is the model's own field: the APU
clocks it has made while started, from which the free value says when a sample is due (notes/assumptions/19.md). -/
structure Apu where
  channels : ApuChannels
  running : Bool
  clock : Nat
  output : List Int
  deriving DecidableEq, Repr

/-- The button state of one controller (R558). The bit order is not in the source (N25), so the buttons have names. -/
structure Buttons where
  a : Bool
  b : Bool
  select : Bool
  start : Bool
  up : Bool
  down : Bool
  left : Bool
  right : Bool
  deriving DecidableEq, Repr

/-- What can happen to the devices. A read and a write are the CPU's bus events (20_memory.md R107); the others are the
session's (R570): the devices are constructed, advance by a step's cycles, are reset, are loaded with a ROM, get a saved state,
get new button bitmasks, have their mirroring mode set. The bitmasks and the mode stand in the events, so that a port read may answer
from buttons held earlier (20_memory.md R107, R123); what a reset, a load or a restored state replaced is remembered by none, which is
the model's choice (notes/assumptions/34.md). -/
inductive BusEvent where
  | read (a : Word)
  | write (a : Word) (v : Byte)
  | constructed
  | advance (cycles : Nat)
  | reset
  | loaded
  | restored
  | input (pad1 pad2 : Buttons)
  | mirroringSet (m : Mirroring)
  deriving DecidableEq, Repr

/-- Every device the CPU bus reaches (20_memory.md R103, R104). `events` is the model's own field: the events so far,
newest first, which with the rest determine what the Bus answers (R107, R120; notes/assumptions/4.md). -/
structure Devices where
  cart : Option Cartridge
  mapper : MapperState
  vram : Memory
  oam : Memory
  ppu : Ppu
  apu : Apu
  pad1 : Buttons
  pad2 : Buttons
  events : List BusEvent
  deriving DecidableEq, Repr

/-- Which bank table a bank-select addresses (R561, R565). -/
inductive BankSpace where
  | prg | chr
  deriving DecidableEq, Repr, Inhabited

/-- What a bank-select write does (R561, R563): the one window it addresses, in one of the two tables, and the bank that window
then shows. -/
structure BankSelect where
  space : BankSpace
  window : Nat
  bank : Nat
  deriving DecidableEq, Repr, Inhabited

/-- The mapper's side of an answer (R561, R563, R128): at most one window of one table gets a bank, the registers and the
scanline IRQ counter and latch get new values, and the mirroring mode may be overridden. -/
structure MapperReply where
  select : Option BankSelect
  regs : List Byte
  irqCounter : Option Nat
  irqLatch : Option Nat
  mirroring : Option Mirroring
  deriving DecidableEq, Repr, Inhabited

/-- What the Bus does at one access (20_memory.md R107): the byte it answers to a read, the VRAM and OAM bytes it writes,
the new PPU latches and APU channels, the mapper's side, and whether a write makes a device call `requestIRQ()`. -/
structure BusReply where
  value : Byte
  vramWrites : List (Nat × Byte)
  oamWrites : List (Nat × Byte)
  latches : PpuLatches
  channels : ApuChannels
  mapper : MapperReply
  irq : Bool
  deriving DecidableEq, Repr, Inhabited

end Sys2Proof.Machine
end

