-- ==== Sys2Proof/Config.lean ====
section
/-! DEFINITION. What the source leaves to the implementation, as parameters (00_scope.md R11) and free values. An opaque
constant has no body: nothing can be proved of its value, so a statement about the machine holds whatever it is. -/

namespace Sys2Proof

open Sys2Proof.Machine

/-- The parameter `ResetRegs` (R11, D7): the register values after `reset()` other than PC and I. -/
structure ResetRegs where
  a : Byte
  x : Byte
  y : Byte
  sp : Byte
  n : Bool
  v : Bool
  d : Bool
  z : Bool
  c : Bool
  deriving DecidableEq, Repr

/-- The parameter `RamInit` and its like for VRAM and OAM (R11, R112, R602, D12): the bytes the memories hold after a
session reset, any values. -/
structure MemInit where
  ram : List Byte
  vram : List Byte
  oam : List Byte
  deriving DecidableEq, Repr

/-- The parameter `Region` (R11). -/
inductive Region where
  | ntsc | pal
  deriving DecidableEq, Repr

/-- A rational number of ticks per CPU cycle (R11: "`DotsPerCpuCycle` | rational"), as numerator and denominator less one. -/
structure Ratio where
  num : Nat
  denLessOne : Nat
  deriving DecidableEq, Repr, Inhabited

/-- The `ResetRegs` of State.reset. DESIGN CHOICE, unsafe (notes/assumptions/1.md): the spec gives no value; every
statement about reset takes `ResetRegs` as an argument instead. -/
def Config.resetRegs : ResetRegs := ⟨0, 0, 0, 0, false, false, false, false, false⟩

/-- The parameter `Bus` (R11, D11): what the devices do at one access at $2000-$FFFF that mapper 0 does not answer. Free
value (notes/assumptions/4.md). -/
opaque Config.busReply : Devices → BusEvent → BusReply

/-- What a mapper other than 0 does on a scanline event of the PPU, and whether it calls `requestIRQ()`
(60_exceptions.md R561, R564). Free value. -/
opaque Config.onScanline : Devices → MapperReply × Bool

/-- The parameter `MapperSet` beyond ID 0 (R560, D23). Free value. -/
opaque Config.otherMapper : Nat → Bool

/-- The state of a mapper other than 0 after its `reset()` (R603, I16). Free value. -/
opaque Config.mapperReset : Cartridge → MapperState

/-- Scanlines of PreRender, less one (N23), as far as the frame's dots allow. Free value: the source gives no count. -/
opaque Config.preRenderLines : Region → Nat

/-- Scanlines of PostRender, less one (N23), as far as the frame's dots allow. Free value. -/
opaque Config.postRenderLines : Region → Nat

/-- Scanlines of VerticalBlank, less one (N23), as far as the frame's dots allow. Free value. -/
opaque Config.verticalBlankLines : Region → Nat

/-- Dots of a frame's scanline, less one (N23), by how many lines of the frame follow it, as far as the frame's dots allow. Free
value: lines may differ in length. -/
opaque Config.lineDots : Region → Nat → Nat

/-- How many dots a PAL frame has beyond one for each of its 243 or more lines. Free value: R554 gives the period for NTSC. -/
opaque Config.palFrameDots : Nat

/-- The PPU's timing after its `reset()` (R603). Free value. -/
opaque Config.ppuResetTiming : Devices → PpuTiming

/-- The sprites kept for a line after the PPU's `reset()` (R603). Free value. -/
opaque Config.ppuResetSprites : Devices → List Nat

/-- The output buffer after the PPU's `reset()` (R603). Free value. -/
opaque Config.ppuResetPixels : Devices → Vector (Vector Nat 256) 240

/-- The PPU's latches after its `reset()` (R603). Free value. -/
opaque Config.ppuResetLatches : Devices → PpuLatches

/-- The sprites whose Y-range covers a visible scanline, in evaluation order (R552). Free value: the layout of OAM is not
in the source. -/
opaque Config.spritesOnLine : Devices → Nat → List Nat

/-- Whether the line sets the sprite-0 hit flag (R552). Free value (N23). -/
opaque Config.spriteZeroHit : Devices → Nat → Bool

/-- The composited pixel of a line and column, given the sprites kept for the line (R552). Free value: the pixel pipeline
is out of scope (R8). -/
opaque Config.pixel : Devices → List Nat → Nat → Nat → Nat

/-- What the PPU reads as pattern data where no CHR bank gives it (I14). Free value. -/
opaque Config.patternByte : Devices → Nat → Byte

/-- The CPU-cycle-to-APU-clock ratio (R555, R556). Free value. -/
opaque Config.apuClocksPerCycle : Region → Ratio

/-- A generator's `step() -> sampleContribution` (R555): its record after the step, and the contribution. Free value: the
synthesis formulas are out of scope (R8). -/
opaque Config.generatorStep : Generator → ApuChannel → ApuChannel × Int

/-- A generator's clock divider (R555): the APU clocks between two of its steps, less one. Free value. -/
opaque Config.dividerPeriod : Generator → ApuChannel → Nat

/-- The mixer (R555, R556): one PCM sample of the five contributions, in the order of R555. Free value: the "standard non-linear
mixing approximation" is not given. -/
opaque Config.mix : Int → Int → Int → Int → Int → Int

/-- Whether the mixer appends a sample at the APU clock of the given number (R555). Free value: the sample rate is not given. -/
opaque Config.sampleDue : Nat → Bool

/-- The APU channels after its `reset(session)` (R555, R603). Free value. -/
opaque Config.apuReset : Devices → ApuChannels

/-- The parameter `DotsPerCpuCycle` for PAL (R11, D22). Free value. -/
opaque Config.palDotsPerCpuCycle : Ratio

end Sys2Proof
end

