-- ==== Sys2Proof/Machine/Bus.lean ====
section
/-! DEFINITION. The `Bus` (20_memory.md R103 to R107): what a CPU access at $2000-$FFFF answers and does. Mapper 0's
cartridge windows are given (60_exceptions.md R562); everything else is the free `Config.busReply`. The two PPU
memories with their address resolution (R126, R127) stand here, since the Bus writes them. -/

namespace Sys2Proof.Machine

/-- The physical table behind each of the four logical nametables $2000, $2400, $2800, $2C00 (R127): table A is 0 and
table B is 1. -/
def physicalTable (m : Mirroring) (table : Nat) : Nat :=
  match m with
  | .horizontal => if table < 2 then 0 else 1
  | .vertical => table % 2
  | .singleScreen => 0
  | .fourScreen => table

/-- The VRAM cell of a PPU address (R101, R126, R127): the 32 KiB logical space wraps, and a nametable address
($2000-$2FFF) goes to its physical table under the current mirroring. DEDUCED, notes/assumptions/17.md. -/
def vramIndex (m : Mirroring) (a : Nat) : Nat :=
  let a := a % 0x8000
  if 0x2000 ≤ a ∧ a < 0x3000 then 0x2000 + 0x400 * physicalTable m ((a - 0x2000) / 0x400) + (a - 0x2000) % 0x400
  else a

/-- PPU VRAM `read(address)` (R113, R126). -/
def vramRead (d : Devices) (a : Nat) : Byte := Memory.read d.vram (vramIndex d.ppu.mirroring a)

/-- PPU VRAM `write(address, byte)` (R113, R126). -/
def vramWrite (d : Devices) (a : Nat) (v : Byte) : Devices :=
  { d with vram := Memory.write d.vram (vramIndex d.ppu.mirroring a) v }

/-- Sprite RAM `read(address)` (R102, R113); the address is masked to 256 bytes (R110). -/
def oamRead (d : Devices) (a : Nat) : Byte := Memory.read d.oam (a % 0x100)

/-- Sprite RAM `write(address, byte)` (R102, R113). -/
def oamWrite (d : Devices) (a : Nat) (v : Byte) : Devices := { d with oam := Memory.write d.oam (a % 0x100) v }

/-- A PPU read of pattern data at $0000-$1FFF: mapper 0 shows the fixed 8 KiB CHR bank there (R562). -/
def patternRead (d : Devices) (a : Nat) : Byte :=
  match d.cart with
  | some c => if c.mapperId = 0 ∧ 0 < c.chrBanks then c.chr.getD (a % 0x2000) 0 else Config.patternByte d a
  | none => Config.patternByte d a

/-- The PRG byte mapper 0 shows at a CPU address (R562): `PRG[(a - $8000) mod (16384 * prgBanks)]` for a >= $8000. -/
def prgByte (c : Cartridge) (a : Word) : Byte := c.prg.getD ((a.toNat - 0x8000) % (16384 * c.prgBanks)) 0

/-- The loaded cartridge when it is a mapper-0 one and the address lies in its windows $8000-$FFFF (R562). -/
def fixedBank? (d : Devices) (a : Word) : Option Cartridge :=
  match d.cart with
  | some c => if c.mapperId = 0 ∧ 0x8000 ≤ a.toNat then some c else none
  | none => none

/-- A bank table after a bank-select: "only the addressed logical window's visible bank" changes (R563), so the table of the
other space stays. -/
def selectBank (space : BankSpace) (table : List Nat) (sel : Option BankSelect) : List Nat :=
  match sel with
  | some b => if b.space = space then table.set b.window b.bank else table
  | none => table

/-- The mapper's side of an answer (R561, R563, R128). Mapper 0 has no registers (I16) and is not changed. -/
def applyMapper (d : Devices) (r : MapperReply) : Devices :=
  match d.cart with
  | some c =>
    if c.mapperId = 0 then d
    else
      { d with
        mapper :=
          { prgTable := selectBank .prg d.mapper.prgTable r.select
            chrTable := selectBank .chr d.mapper.chrTable r.select
            regs := r.regs
            irqCounter := r.irqCounter
            irqLatch := r.irqLatch }
        ppu := { d.ppu with mirroring := r.mirroring.getD d.ppu.mirroring } }
  | none => d

/-- The devices after an access the free Bus answered (R107): VRAM and OAM bytes written, latches and channels replaced,
the mapper's side applied, the event recorded. -/
def applyReply (d : Devices) (e : BusEvent) (r : BusReply) : Devices :=
  let d := r.vramWrites.foldl (fun d w => vramWrite d w.1 w.2) d
  let d := r.oamWrites.foldl (fun d w => oamWrite d w.1 w.2) d
  let d := { d with ppu := { d.ppu with latches := r.latches }, apu := { d.apu with channels := r.channels } }
  let d := applyMapper d r.mapper
  { d with events := e :: d.events }

/-- `Bus.read(a)` (R103): the byte answered, and the devices after it. -/
def busRead (d : Devices) (a : Word) : Byte × Devices :=
  match fixedBank? d a with
  | some c => (prgByte c a, d)
  | none =>
    let r := Config.busReply d (.read a)
    (r.value, applyReply d (.read a) r)

/-- `Bus.write(a, v)` (R103): whether a device calls `requestIRQ()` (R561, R564), and the devices after it. -/
def busWrite (d : Devices) (a : Word) (v : Byte) : Bool × Devices :=
  match fixedBank? d a with
  | some _ => (false, d)
  | none =>
    let r := Config.busReply d (.write a v)
    (r.irq, applyReply d (.write a v) r)

/-- Record an event of the session's in the devices' history. -/
def recordEvent (d : Devices) (e : BusEvent) : Devices := { d with events := e :: d.events }

end Sys2Proof.Machine
end

