-- ==== Sys2Proof/Machine/State.lean ====
section
/-! DEFINITION. The machine's state as plain data: the CPU's registers and hidden bits (10_state.md R50 to R64), CPU RAM
(20_memory.md R111), the devices, the session (60_exceptions.md R570); why a step or a host call stops; and State.reset. -/

namespace Sys2Proof.Machine

/-- The six stored bits of P (10_state.md R56, R58). B and bit 5 have no storage (R59). -/
structure Flags where
  n : Bool
  v : Bool
  d : Bool
  i : Bool
  z : Bool
  c : Bool
  deriving DecidableEq, Repr

/-- The session's states (60_exceptions.md R570): "`Unloaded → Loaded(idle) → Running ⇄ Paused → destroyed`". -/
inductive SessionPhase where
  | unloaded | loaded | running | paused | destroyed
  deriving DecidableEq, Repr

/-- The session's own state (60_exceptions.md R570, 10_state.md R64): its phase, its region, and the sum of the cycle
counts the CPU steps returned. -/
structure Session where
  phase : SessionPhase
  region : Region
  totalCycles : Nat
  deriving DecidableEq, Repr

/-- The whole machine. `a`, `x`, `y`, `sp`, `pc`, `p` are the CPU's registers (10_state.md R50 to R61); `nmiPending`,
`irqPending`, `halted`, `running` its hidden bits (R62); `cycles` is the model's own field: the count the last step
returned, none for a halt step (70_reset_and_hazards.md R620; notes/assumptions/8.md). `ram` is the 2048 physical bytes
(20_memory.md R111); `dev` is every device behind the Bus; `session` is the host's side. -/
structure State where
  a : Byte
  x : Byte
  y : Byte
  sp : Byte
  pc : Word
  p : Flags
  nmiPending : Bool
  irqPending : Bool
  halted : Bool
  running : Bool
  cycles : Option Nat
  ram : Memory
  dev : Devices
  session : Session
  deriving DecidableEq, Repr

/-- Why a step or a host call stops without a next state. No instruction raises one. -/
inductive Fault where
  /-- Raised by a step when the CPU is not running or is halted: the spec's outcome `NoStep` (00_scope.md R19, 10_state.md
  R62). Safe: nothing changes. -/
  | noStep
  /-- Raised by loadRom: the first four bytes are not the magic (60_exceptions.md R567). Safe: no state changes. -/
  | romBadMagic
  /-- Raised by loadRom: the file is shorter than its header declares (R567). Safe: no state changes. -/
  | romTruncated
  /-- Raised by loadRom: the header declares zero PRG banks (R567). Safe: no state changes. -/
  | romNoPrgBanks
  /-- Raised by loadRom: the mapper ID is not in `MapperSet` (R560, R569). Safe: no state changes. -/
  | romUnknownMapper
  /-- Raised by stateLoad: the version byte is not 1 (R571, I11). Safe: no state changes. -/
  | saveBadVersion
  /-- Raised by stateLoad: the buffer ends before its last block is complete; and by deserialize: the block is not 8 bytes (R571,
  I11). Safe: no state changes. -/
  | saveTruncated
  /-- Raised by stateLoad: a block holds what no save of this machine has, such as a PPU outside its frame (R571,
  notes/assumptions/37.md). Safe: no state changes. -/
  | saveMalformed
  deriving DecidableEq, Repr

/-- Why the model gives no meaning. No instruction is refused. -/
inductive Refusal where
  /-- Raised by exec for an instruction that has no meaning yet. Safe. -/
  | notModelled (mnemonic : String)
  /-- Raised by stateLoad and deserialize for a state captured under another ROM (60_exceptions.md R573, R574, I10). Safe. -/
  | foreignState
  /-- Raised by a host call in a phase from which R570 gives it no transition, by every call but `construct` once the session is
  destroyed, and with the run loop not paused where R572 and R573 require it. Safe. -/
  | outOfPhase
  deriving DecidableEq, Repr

/-- What a step, a meaning or a host call answers. -/
abbrev Result := Host.Outcome State Fault Refusal

/-- The reset vector's address (20_memory.md R105). -/
def resetVector : Word := 0xFFFC

/-- A channel with nothing going on. -/
def ApuChannel.silent : ApuChannel := ⟨0, 0, 0, 0, 0, 0⟩

/-- No button pressed. -/
def Buttons.none : Buttons := ⟨false, false, false, false, false, false, false, false⟩

/-- The devices of State.reset: no cartridge, every device value 0, every pixel 0. DESIGN CHOICE, unsafe
(notes/assumptions/12.md): the source gives no reset value of a device (70_reset_and_hazards.md R602, R603). -/
def Devices.initial : Devices where
  cart := none
  mapper := ⟨[], [], [], none, none⟩
  vram := []
  oam := []
  ppu :=
    { timing := ⟨.preRender, 0, 0⟩
      latches := ⟨0, 0, 0, [], false, false, false, false⟩
      mirroring := .horizontal
      lineSprites := []
      pixels := Vector.replicate 240 (Vector.replicate 256 0)
      frames := 0 }
  apu :=
    { channels :=
        ⟨ApuChannel.silent, ApuChannel.silent, ApuChannel.silent, ApuChannel.silent, ApuChannel.silent⟩
      running := false
      clock := 0
      output := [] }
  pad1 := Buttons.none
  pad2 := Buttons.none
  events := []

/-- The two bytes the Bus answers at the reset vector (R105, R600), read low byte first. -/
def vectorAtReset (d : Devices) : Word :=
  let lo := busRead d resetVector
  let hi := busRead lo.2 (resetVector + 1)
  word hi.1 lo.1

/-- The machine right after the CPU's `reset()` (10_state.md R70, 70_reset_and_hazards.md R600) in a session of the given `Region`
(00_scope.md R11): PC from the reset vector, I = 1, the pending bits and `halted` 0; A, X, Y, SP and the other flags are
`Config.resetRegs`. `running` is 0, as at construction (R70), and no ROM is loaded: how a program comes to run is
notes/assumptions/9.md. -/
def State.resetIn (region : Region) : State where
  a := Config.resetRegs.a
  x := Config.resetRegs.x
  y := Config.resetRegs.y
  sp := Config.resetRegs.sp
  pc := vectorAtReset Devices.initial
  p :=
    { n := Config.resetRegs.n
      v := Config.resetRegs.v
      d := Config.resetRegs.d
      i := true
      z := Config.resetRegs.z
      c := Config.resetRegs.c }
  nmiPending := false
  irqPending := false
  halted := false
  running := false
  cycles := none
  ram := []
  dev := Devices.initial
  session := ⟨.unloaded, region, 0⟩

/-- The machine right after reset, on NTSC (notes/assumptions/20.md). -/
def State.reset : State := State.resetIn .ntsc

end Sys2Proof.Machine
end

