-- ==== Sys2Proof/Machine/Flags.lean ====
section
/-! DEFINITION. Every flag computation of the spec: the packed byte of P (10_state.md R58), N and Z of a result
(00_scope.md R17), addition with carry (43_arithmetic.md R330), the compare (R339), the shifts and rotates (46_shift.md),
and the flags of the undocumented ANC, ALR, ARR, AXS (49_undocumented.md). -/

namespace Sys2Proof.Machine

/-- `PackP(b) = {N, V, 1, b, D, I, Z, C}`, bit 7 to bit 0 (R58): the byte of P as it is pushed. -/
def packP (b : Bool) (p : Flags) : Byte :=
  BitVec.ofBool p.n ++ BitVec.ofBool p.v ++ BitVec.ofBool true ++ BitVec.ofBool b ++ BitVec.ofBool p.d ++
    BitVec.ofBool p.i ++ BitVec.ofBool p.z ++ BitVec.ofBool p.c

/-- `UnpackP(v)` (R58): the six flags of a pulled byte, bits 5 and 4 discarded. -/
def unpackP (v : Byte) : Flags where
  n := v.getLsbD 7
  v := v.getLsbD 6
  d := v.getLsbD 3
  i := v.getLsbD 2
  z := v.getLsbD 1
  c := v.getLsbD 0

/-- `SetNZ(v)` (R17): N is bit 7 of v, Z says v is zero. -/
def setNZ (v : Byte) (p : Flags) : Flags := { p with n := v.getLsbD 7, z := v == 0 }

/-- The exact sum of an addition with carry (R330), 0..511. -/
def addSum (a m : Byte) (c : Bool) : Nat := a.toNat + m.toNat + c.toNat

/-- The byte of an addition with carry: the sum mod 2^8 (R330, R340). -/
def addByte (a m : Byte) (c : Bool) : Byte := BitVec.ofNat 8 (addSum a m c)

/-- The flags of an addition with carry (R330): C is sum > 255; V says both inputs have one sign and the result the other;
N and Z are the result's. D is not read (R331). -/
def addFlags (a m : Byte) (p : Flags) : Flags :=
  let r := addByte a m p.c
  setNZ r { p with c := decide (addSum a m p.c > 255), v := (~~~(a ^^^ m) &&& (a ^^^ r)).getLsbD 7 }

/-- `Compare(R, M)` (R339): C is R >= M unsigned, Z is R = M, N is bit 7 of (R - M) mod 2^8. -/
def compareFlags (r m : Byte) (p : Flags) : Flags :=
  { p with c := decide (m.toNat ≤ r.toNat), z := r == m, n := (r - m).getLsbD 7 }

/-- The flags of BIT (R358): N and V are bits 7 and 6 of the memory byte, Z is of the AND. -/
def bitFlags (a m : Byte) (p : Flags) : Flags :=
  { p with n := m.getLsbD 7, v := m.getLsbD 6, z := (a &&& m) == 0 }

/-- The shift of ASL and SLO (R365, R422): C is the old bit 7. N and Z are set apart. -/
def shiftLeft (v : Byte) (p : Flags) : Byte × Flags := (v <<< 1, { p with c := v.getLsbD 7 })

/-- The shift of LSR and SRE (R366, R424): C is the old bit 0. -/
def shiftRight (v : Byte) (p : Flags) : Byte × Flags := (v >>> 1, { p with c := v.getLsbD 0 })

/-- The rotation of ROL and RLA (R367, R423): the old C enters bit 0, C is the old bit 7. -/
def rotateLeft (v : Byte) (p : Flags) : Byte × Flags := ((v <<< 1) + bit p.c, { p with c := v.getLsbD 7 })

/-- The rotation of ROR and RRA (R368, R425): the old C enters bit 7, C is the old bit 0. -/
def rotateRight (v : Byte) (p : Flags) : Byte × Flags := ((v >>> 1) + (bit p.c <<< 7), { p with c := v.getLsbD 0 })

/-- The increment of INC and ISC (R345, R429): mod 2^8, no flag of its own. -/
def increment (v : Byte) (p : Flags) : Byte × Flags := (v + 1, p)

/-- The decrement of DEC and DCP (R346, R428): mod 2^8, no flag of its own. -/
def decrement (v : Byte) (p : Flags) : Byte × Flags := (v - 1, p)

/-- The flags of ANC from the new A (R430): N and Z, and C = N. -/
def ancFlags (a : Byte) (p : Flags) : Flags := setNZ a { p with c := a.getLsbD 7 }

/-- The byte and flags of ALR from `t = A & b1` (R431): C is bit 0 of t, the result is t div 2. -/
def alrStep (t : Byte) (p : Flags) : Byte × Flags := (t >>> 1, setNZ (t >>> 1) { p with c := t.getLsbD 0 })

/-- The byte and flags of ARR from `t = A & b1` (R432): the old C enters bit 7; C is bit 6 of the result, V is bit 6 XOR
bit 5 of it. -/
def arrStep (t : Byte) (p : Flags) : Byte × Flags :=
  let r := (t >>> 1) + (bit p.c <<< 7)
  (r, { setNZ r p with c := r.getLsbD 6, v := r.getLsbD 6 ^^ r.getLsbD 5 })

/-- The byte and flags of AXS from `t = A & X` (R433): C is t >= b1 unsigned, the result is (t - b1) mod 2^8. -/
def axsStep (t m : Byte) (p : Flags) : Byte × Flags := (t - m, setNZ (t - m) { p with c := decide (m.toNat ≤ t.toNat) })

end Sys2Proof.Machine
end

