-- ==== Sys2Proof/Machine/Ops.lean ====
section
/-! DEFINITION. The named operations over memory and registers (00_scope.md R16, R17; 20_memory.md R103, R117), interrupt
entry and return (60_exceptions.md R519, R530), the poll (R510), and the CPU's host calls (R513, R514, R600; 10_state.md
R62, R67). No operation stops: no access faults (R110). -/

namespace Sys2Proof.Machine

/-- The address is in the RAM range $0000-$1FFF (R103, D27). -/
def isRam (a : Word) : Bool := decide (a.toNat < 0x2000)

/-- The physical RAM byte an address of the RAM range names: `a mod $0800` (R103, R111). -/
def ramIndex (a : Word) : Nat := a.toNat % 0x800

/-- `MemRead(addr, 1)` (R16, R103): RAM below $2000, the Bus at $2000 and above. -/
def memRead (a : Word) (s : State) : Byte × State :=
  if isRam a then (Memory.read s.ram (ramIndex a), s)
  else
    let r := busRead s.dev a
    (r.1, { s with dev := r.2 })

/-- `MemWrite(addr, 1, v)` (R16, R103). A device may answer a write with `requestIRQ()` (R514, R561). -/
def memWrite (a : Word) (v : Byte) (s : State) : State :=
  if isRam a then { s with ram := Memory.write s.ram (ramIndex a) v }
  else
    let r := busWrite s.dev a v
    { s with dev := r.2, irqPending := s.irqPending || r.1 }

/-- The byte a read of the address would answer now. It changes nothing: it is the model's own look at memory. -/
def peek (a : Word) (s : State) : Byte := (memRead a s).1

/-- `Read16(a)` (R17): low byte at a, then high byte at a + 1 mod 2^16. -/
def read16 (a : Word) (s : State) : Word × State :=
  let lo := memRead a s
  let hi := memRead (a + 1) lo.2
  (word hi.1 lo.1, hi.2)

/-- `Read16ZP(z)` (R17): both bytes in page 0, the high byte at (z + 1) mod 2^8. -/
def read16Zp (z : Byte) (s : State) : Word × State :=
  let lo := memRead (zext16 z) s
  let hi := memRead (zext16 (z + 1)) lo.2
  (word hi.1 lo.1, hi.2)

/-- The address of a stack byte: $0100 + SP (R61, R117). -/
def stackAddr (sp : Byte) : Word := 0x0100 + zext16 sp

/-- `Push(v)` (R17, R117): write at $0100 + SP, then decrement SP mod 2^8. -/
def push (v : Byte) (s : State) : State :=
  let s' := memWrite (stackAddr s.sp) v s
  { s' with sp := s'.sp - 1 }

/-- `Pull()` (R17, R117): increment SP mod 2^8, then read at $0100 + SP. -/
def pull (s : State) : Byte × State := memRead (stackAddr (s.sp + 1)) { s with sp := s.sp + 1 }

/-- Push a word, high byte first (R115). -/
def pushWord (w : Word) (s : State) : State := push (lo8 w) (push (hi8 w) s)

/-- Pull a word, low byte first (R377, R410). -/
def pullWord (s : State) : Word × State :=
  let lo := pull s
  let hi := pull lo.2
  (word hi.1 lo.1, hi.2)

/-- PC past an instruction of n bytes, mod 2^16 (R55, R163). -/
def advancePc (n : Nat) (s : State) : State := { s with pc := s.pc + BitVec.ofNat 16 n }

/-- The count the step returns (R620). -/
def withCycles (n : Nat) (s : State) : State := { s with cycles := some n }

/-- TAKING AN INTERRUPT, shared by NMI, IRQ and BRK (60_exceptions.md R519, R523; 48_flags_system.md R409): push the return
address high byte first, push P with the given B, set I, and load PC from the vector. D is not cleared (R522). -/
def enterInterrupt (vector ret : Word) (b : Bool) (s : State) : State :=
  let s1 := pushWord ret s
  let s2 := push (packP b s1.p) s1
  let s3 := { s2 with p := { s2.p with i := true } }
  let t := read16 vector s3
  { t.2 with pc := t.1 }

/-- RETURN FROM INTERRUPT (R410, R530): pull P, discarding bits 5 and 4, then pull PC; no 1 is added. -/
def returnFromInterrupt (s : State) : State :=
  let v := pull s
  let t := pullWord { v.2 with p := unpackP v.1 }
  { t.2 with pc := t.1 }

/-- The NMI vector's address (R105). -/
def nmiVector : Word := 0xFFFA

/-- The IRQ and BRK vector's address (R105). -/
def irqVector : Word := 0xFFFE

/-- The cycles of an interrupt entry (R520, R521, D17). -/
def entryCycles : Nat := 7

/-- NMI entry (R520). -/
def enterNmi (s : State) : State := enterInterrupt nmiVector s.pc false { s with nmiPending := false }

/-- IRQ entry (R521). -/
def enterIrq (s : State) : State := enterInterrupt irqVector s.pc false { s with irqPending := false }

/-- The poll at the start of a step (R160, R510, R511, R517): NMI before IRQ, IRQ only with I = 0, at most one entry. It
gives the entry's cycles and the state after it. -/
def poll (s : State) : Nat × State :=
  if s.nmiPending then (entryCycles, enterNmi s)
  else if s.irqPending && !s.p.i then (entryCycles, enterIrq s)
  else (0, s)

/-- Add the cycles of an interrupt entry to the count of the instruction that follows it (R160, R620). A halt step returns
no count. -/
def addEntry (entry : Nat) : Result → Result
  | .next s => .next { s with cycles := s.cycles.map (entry + ·) }
  | .fault f => .fault f
  | .refused r => .refused r

/-- `requestNMI()` (R513). -/
def requestNmi (s : State) : State := { s with nmiPending := true }

/-- `requestIRQ()` (R514). -/
def requestIrq (s : State) : State := { s with irqPending := true }

/-- `beginExecution()` (R62, D20). -/
def beginExecution (s : State) : State := { s with running := true }

/-- `endExecution()` (R62, D20). -/
def endExecution (s : State) : State := { s with running := false }

/-- `isRunning() = running & ~halted` (R62). -/
def isRunning (s : State) : Bool := s.running && !s.halted

/-- The CPU's `reset()` (70_reset_and_hazards.md R600): pending bits and `halted` cleared, the registers of `ResetRegs`, I =
1, PC from the reset vector. No memory is written, `running` is unchanged, no count is returned. -/
def cpuReset (r : ResetRegs) (s : State) : State :=
  let s1 :=
    { s with
      nmiPending := false
      irqPending := false
      halted := false
      a := r.a
      x := r.x
      y := r.y
      sp := r.sp
      p := { n := r.n, v := r.v, d := r.d, i := true, z := r.z, c := r.c }
      cycles := none }
  let t := read16 resetVector s1
  { t.2 with pc := t.1 }

/-- The CPU block of the save state (10_state.md R67): A, X, Y, SP, PC low, PC high, PackP(1), the pending and halted bits. -/
def cpuSerialize (s : State) : List Byte :=
  [s.a, s.x, s.y, s.sp, lo8 s.pc, hi8 s.pc, packP true s.p,
    bit s.nmiPending + (bit s.irqPending <<< 1) + (bit s.halted <<< 2)]

/-- `deserialize(block)` of the CPU (R67): every field from the 8 bytes; `running` is not in the block. R67 says that bits 7-3 of the
last byte are zero and not what a block does where they are not: that they are then not read, and the block loads, is the model's
choice (notes/assumptions/37.md). -/
def cpuDeserialize (block : List Byte) (s : State) : Option State :=
  match block with
  | [a, x, y, sp, pcl, pch, p, h] =>
    some
      { s with
        a := a
        x := x
        y := y
        sp := sp
        pc := word pch pcl
        p := unpackP p
        nmiPending := h.getLsbD 0
        irqPending := h.getLsbD 1
        halted := h.getLsbD 2 }
  | _ => none

end Sys2Proof.Machine
end

