-- ==== Sys2Proof/Machine/Operands.lean ====
section
/-! DEFINITION. Every operand form (30_encoding.md R170 to R182), the access classes (R183) in their bus order (R184) with the
page-crossing penalty (R185), and the branch operation (47_control.md R385). Each class is one operation; an
instruction is one line over it. -/

namespace Sys2Proof.Machine

/-- An effective address: the address, whether the index crossed a page (R22), and the state after the pointer reads the
mode makes (R170). -/
structure EffAddr where
  addr : Word
  cross : Bool
  state : State

/-- `base + index mod 2^16`, and whether its high byte differs from the base's (R177, R180, R181). -/
def indexed (base : Word) (index : Byte) (s : State) : EffAddr :=
  let ea := base + zext16 index
  ⟨ea, hi8 base != hi8 ea, s⟩

/-- The effective address of an operand in memory, with the pointer reads its mode needs in the order written (R173 to
R181). -/
def effAddr (m : MemOperand) (s : State) : EffAddr :=
  match m with
  | .zp b => ⟨zext16 b, false, s⟩
  | .zpx b => ⟨zext16 (b + s.x), false, s⟩
  | .zpy b => ⟨zext16 (b + s.y), false, s⟩
  | .abs w => ⟨w, false, s⟩
  | .absx w => indexed w s.x s
  | .absy w => indexed w s.y s
  | .ind w =>
    let lo := memRead w s
    let hi := memRead (word (hi8 w) (lo8 w + 1)) lo.2
    ⟨word hi.1 lo.1, false, hi.2⟩
  | .indx b =>
    let t := read16Zp (b + s.x) s
    ⟨t.1, false, t.2⟩
  | .indy b =>
    let t := read16Zp b s
    indexed t.1 s.y t.2

/-- An operand byte M of the read class: the byte, the extra cycles, the state after the reads. -/
structure Fetched where
  value : Byte
  extra : Nat
  state : State

/-- The operand of the read class (R183): b1, or exactly one read of EA; one extra cycle when the index crossed a page
(R185). -/
def readSource (o : Source) (s : State) : Fetched :=
  match o with
  | .imm b => ⟨b, 0, s⟩
  | .mem m =>
    let ea := effAddr m s
    let v := memRead ea.addr ea.state
    ⟨v.1, ea.cross.toNat, v.2⟩

/-- The length of an instruction with a memory operand (R162). -/
def memLength (m : MemOperand) : Nat := m.mode.length

/-- The length of a read-class instruction (R162). -/
def sourceLength : Source → Nat
  | .imm _ => 2
  | .mem m => memLength m

/-- An implied instruction (R170): PC past it, its effect, its count. -/
def implied (base : Nat) (f : State → State) (s : State) : Result := .next (withCycles base (f (advancePc 1 s)))

/-- A read-class instruction (R183): PC past it (R163), the operand read, the effect of M, `base` cycles and the penalty. -/
def readClass (o : Source) (base : Nat) (f : Byte → State → State) (s : State) : Result :=
  let r := readSource o (advancePc (sourceLength o) s)
  .next (withCycles (base + r.extra) (f r.value r.state))

/-- A write-class instruction (R183): exactly one write of EA, no read of it; no penalty (R185). -/
def writeClass (m : MemOperand) (base : Nat) (v : State → Byte) (s : State) : Result :=
  let ea := effAddr m (advancePc (memLength m) s)
  .next (withCycles base (memWrite ea.addr (v ea.state) ea.state))

/-- A read-modify-write instruction on memory (R183): one read of EA, the modified byte and its flags by `f`, one write of
it, then `g` with the modified byte; no penalty (R185, R420). -/
def modifyClass (m : MemOperand) (base : Nat) (f : Byte → Flags → Byte × Flags) (g : Byte → State → State)
    (s : State) : Result :=
  let ea := effAddr m (advancePc (memLength m) s)
  let v := memRead ea.addr ea.state
  let r := f v.1 v.2.p
  .next (withCycles base (g r.1 (memWrite ea.addr r.1 { v.2 with p := r.2 })))

/-- A shift or rotate in its two kinds of mode (46_shift.md): on A with no memory access (R171), or read-modify-write; then
N and Z of the result. -/
def shiftClass (t : Target) (base : Nat) (f : Byte → Flags → Byte × Flags) (s : State) : Result :=
  match t with
  | .acc => implied base (fun s => let r := f s.a s.p; { s with a := r.1, p := setNZ r.1 r.2 }) s
  | .mem m => modifyClass m base f (fun r s => { s with p := setNZ r s.p }) s

/-- The target of a relative branch: PC of the next instruction plus the signed offset, mod 2^16 (R182). -/
def branchTarget (next : Word) (b : Byte) : Word := next + sext16 b

/-- `Branch(cond)` (R385): 2 cycles not taken, 3 taken, 4 taken to another page. -/
def branch (cond : Bool) (b : Byte) (s : State) : Result :=
  let s1 := advancePc 2 s
  let target := branchTarget s1.pc b
  if cond then
    .next (withCycles (2 + (1 + (hi8 s1.pc != hi8 target).toNat)) { s1 with pc := target })
  else .next (withCycles 2 s1)

/-- The halt (60_exceptions.md R500): `halted` is set, PC stays at the opcode, nothing else changes, no count is returned. -/
def halt (s : State) : Result := .next { s with halted := true, cycles := none }

end Sys2Proof.Machine
end

