-- ==== Sys2Proof/Machine/Control.lean ====
section
/-! DEFINITION. Control flow (47_control.md R375 to R393): jumps, subroutine call and return, the eight branches. No flag is
written. -/

namespace Sys2Proof.Machine

/-- JMP (R375): `PC <- EA`. -/
def opJmp (m : MemOperand) (base : Nat) (s : State) : Result :=
  let ea := effAddr m (advancePc (memLength m) s)
  .next (withCycles base { ea.state with pc := ea.addr })

/-- `$4C` JMP $hhll (R375, R179): 3 bytes, 3 cycles. -/
def execJmpAbs (w : Word) (s : State) : Result := opJmp (.abs w) 3 s

/-- `$6C` JMP ($hhll) (R375, R178): 3 bytes, 5 cycles. -/
def execJmpInd (w : Word) (s : State) : Result := opJmp (.ind w) 5 s

/-- `$20` JSR $hhll (R376, R179): 3 bytes, 6 cycles. -/
def execJsr (w : Word) (s : State) : Result :=
  let s1 := advancePc 3 s
  let s2 := pushWord (s1.pc - 1) s1
  .next (withCycles 6 { s2 with pc := w })

/-- `$60` RTS (R377, R170): 1 byte, 6 cycles. -/
def execRts (s : State) : Result := implied 6 (fun s => let t := pullWord s; { t.2 with pc := t.1 + 1 }) s

/-- `$10` BPL label (R386, R182): 2 bytes, 2 cycles, 3 taken, 4 taken to another page (R385). -/
def execBpl (b : Byte) (s : State) : Result := branch (!s.p.n) b s

/-- `$30` BMI label (R387, R182): 2 bytes, 2 cycles, 3 taken, 4 taken to another page (R385). -/
def execBmi (b : Byte) (s : State) : Result := branch s.p.n b s

/-- `$50` BVC label (R388, R182): 2 bytes, 2 cycles, 3 taken, 4 taken to another page (R385). -/
def execBvc (b : Byte) (s : State) : Result := branch (!s.p.v) b s

/-- `$70` BVS label (R389, R182): 2 bytes, 2 cycles, 3 taken, 4 taken to another page (R385). -/
def execBvs (b : Byte) (s : State) : Result := branch s.p.v b s

/-- `$90` BCC label (R390, R182): 2 bytes, 2 cycles, 3 taken, 4 taken to another page (R385). -/
def execBcc (b : Byte) (s : State) : Result := branch (!s.p.c) b s

/-- `$B0` BCS label (R391, R182): 2 bytes, 2 cycles, 3 taken, 4 taken to another page (R385). -/
def execBcs (b : Byte) (s : State) : Result := branch s.p.c b s

/-- `$D0` BNE label (R392, R182): 2 bytes, 2 cycles, 3 taken, 4 taken to another page (R385). -/
def execBne (b : Byte) (s : State) : Result := branch (!s.p.z) b s

/-- `$F0` BEQ label (R393, R182): 2 bytes, 2 cycles, 3 taken, 4 taken to another page (R385). -/
def execBeq (b : Byte) (s : State) : Result := branch s.p.z b s

end Sys2Proof.Machine
end

