-- ==== Sys2Proof/Machine/IncDec.lean ====
section
/-! DEFINITION. Increment and decrement (44_incdec.md R345 to R350): wrap mod 2^8, write N and Z only. -/

namespace Sys2Proof.Machine

/-- INC (R345): one read, one write of (v + 1) mod 2^8, N and Z of it. -/
def opInc (m : MemOperand) (base : Nat) (s : State) : Result :=
  modifyClass m base increment (fun r s => { s with p := setNZ r s.p }) s

/-- DEC (R346): one read, one write of (v - 1) mod 2^8, N and Z of it. -/
def opDec (m : MemOperand) (base : Nat) (s : State) : Result :=
  modifyClass m base decrement (fun r s => { s with p := setNZ r s.p }) s

/-- `$E6` INC $nn (R345, R173): 2 bytes, 5 cycles. -/
def execIncZp (b : Byte) (s : State) : Result := opInc (.zp b) 5 s

/-- `$EE` INC $hhll (R345, R179): 3 bytes, 6 cycles. -/
def execIncAbs (w : Word) (s : State) : Result := opInc (.abs w) 6 s

/-- `$F6` INC $nn,X (R345, R174): 2 bytes, 6 cycles. -/
def execIncZpx (b : Byte) (s : State) : Result := opInc (.zpx b) 6 s

/-- `$FE` INC $hhll,X (R345, R180): 3 bytes, 7 cycles. -/
def execIncAbsx (w : Word) (s : State) : Result := opInc (.absx w) 7 s

/-- `$C6` DEC $nn (R346, R173): 2 bytes, 5 cycles. -/
def execDecZp (b : Byte) (s : State) : Result := opDec (.zp b) 5 s

/-- `$CE` DEC $hhll (R346, R179): 3 bytes, 6 cycles. -/
def execDecAbs (w : Word) (s : State) : Result := opDec (.abs w) 6 s

/-- `$D6` DEC $nn,X (R346, R174): 2 bytes, 6 cycles. -/
def execDecZpx (b : Byte) (s : State) : Result := opDec (.zpx b) 6 s

/-- `$DE` DEC $hhll,X (R346, R180): 3 bytes, 7 cycles. -/
def execDecAbsx (w : Word) (s : State) : Result := opDec (.absx w) 7 s

/-- `$E8` INX (R347, R170): 1 byte, 2 cycles. -/
def execInx (s : State) : Result := implied 2 (fun s => { s with x := s.x + 1, p := setNZ (s.x + 1) s.p }) s

/-- `$C8` INY (R348, R170): 1 byte, 2 cycles. -/
def execIny (s : State) : Result := implied 2 (fun s => { s with y := s.y + 1, p := setNZ (s.y + 1) s.p }) s

/-- `$CA` DEX (R349, R170): 1 byte, 2 cycles. -/
def execDex (s : State) : Result := implied 2 (fun s => { s with x := s.x - 1, p := setNZ (s.x - 1) s.p }) s

/-- `$88` DEY (R350, R170): 1 byte, 2 cycles. -/
def execDey (s : State) : Result := implied 2 (fun s => { s with y := s.y - 1, p := setNZ (s.y - 1) s.p }) s

end Sys2Proof.Machine
end

