-- ==== Sys2Proof/Machine/LoadStore.lean ====
section
/-! DEFINITION. Loads and stores (40_load_store.md R300 to R305): a byte between memory and A, X or Y. A load sets N and Z from the
byte; a store writes no flag. -/

namespace Sys2Proof.Machine

/-- Load the accumulator (R300): `A <- M; SetNZ(A)`. -/
def loadA (m : Byte) (s : State) : State := { s with a := m, p := setNZ m s.p }

/-- Load X (R301): `X <- M; SetNZ(X)`. -/
def loadX (m : Byte) (s : State) : State := { s with x := m, p := setNZ m s.p }

/-- Load Y (R302): `Y <- M; SetNZ(Y)`. -/
def loadY (m : Byte) (s : State) : State := { s with y := m, p := setNZ m s.p }

/-- LDA (R300). -/
def opLda (o : Source) (base : Nat) (s : State) : Result := readClass o base loadA s

/-- LDX (R301). -/
def opLdx (o : Source) (base : Nat) (s : State) : Result := readClass o base loadX s

/-- LDY (R302). -/
def opLdy (o : Source) (base : Nat) (s : State) : Result := readClass o base loadY s

/-- STA (R303): `MemWrite(EA, 1, A)`. -/
def opSta (m : MemOperand) (base : Nat) (s : State) : Result := writeClass m base State.a s

/-- STX (R304): `MemWrite(EA, 1, X)`. -/
def opStx (m : MemOperand) (base : Nat) (s : State) : Result := writeClass m base State.x s

/-- STY (R305): `MemWrite(EA, 1, Y)`. -/
def opSty (m : MemOperand) (base : Nat) (s : State) : Result := writeClass m base State.y s

/-- `$A1` LDA ($nn,X) (R300, R176): 2 bytes, 6 cycles. -/
def execLdaIndx (b : Byte) (s : State) : Result := opLda (.mem (.indx b)) 6 s

/-- `$A5` LDA $nn (R300, R173): 2 bytes, 3 cycles. -/
def execLdaZp (b : Byte) (s : State) : Result := opLda (.mem (.zp b)) 3 s

/-- `$A9` LDA #$nn (R300, R172): 2 bytes, 2 cycles. -/
def execLdaImm (b : Byte) (s : State) : Result := opLda (.imm b) 2 s

/-- `$AD` LDA $hhll (R300, R179): 3 bytes, 4 cycles. -/
def execLdaAbs (w : Word) (s : State) : Result := opLda (.mem (.abs w)) 4 s

/-- `$B1` LDA ($nn),Y (R300, R177): 2 bytes, 5 cycles, one more when the index crosses a page (R185). -/
def execLdaIndy (b : Byte) (s : State) : Result := opLda (.mem (.indy b)) 5 s

/-- `$B5` LDA $nn,X (R300, R174): 2 bytes, 4 cycles. -/
def execLdaZpx (b : Byte) (s : State) : Result := opLda (.mem (.zpx b)) 4 s

/-- `$B9` LDA $hhll,Y (R300, R181): 3 bytes, 4 cycles, one more when the index crosses a page (R185). -/
def execLdaAbsy (w : Word) (s : State) : Result := opLda (.mem (.absy w)) 4 s

/-- `$BD` LDA $hhll,X (R300, R180): 3 bytes, 4 cycles, one more when the index crosses a page (R185). -/
def execLdaAbsx (w : Word) (s : State) : Result := opLda (.mem (.absx w)) 4 s

/-- `$A2` LDX #$nn (R301, R172): 2 bytes, 2 cycles. -/
def execLdxImm (b : Byte) (s : State) : Result := opLdx (.imm b) 2 s

/-- `$A6` LDX $nn (R301, R173): 2 bytes, 3 cycles. -/
def execLdxZp (b : Byte) (s : State) : Result := opLdx (.mem (.zp b)) 3 s

/-- `$AE` LDX $hhll (R301, R179): 3 bytes, 4 cycles. -/
def execLdxAbs (w : Word) (s : State) : Result := opLdx (.mem (.abs w)) 4 s

/-- `$B6` LDX $nn,Y (R301, R175): 2 bytes, 4 cycles. -/
def execLdxZpy (b : Byte) (s : State) : Result := opLdx (.mem (.zpy b)) 4 s

/-- `$BE` LDX $hhll,Y (R301, R181): 3 bytes, 4 cycles, one more when the index crosses a page (R185). -/
def execLdxAbsy (w : Word) (s : State) : Result := opLdx (.mem (.absy w)) 4 s

/-- `$A0` LDY #$nn (R302, R172): 2 bytes, 2 cycles. -/
def execLdyImm (b : Byte) (s : State) : Result := opLdy (.imm b) 2 s

/-- `$A4` LDY $nn (R302, R173): 2 bytes, 3 cycles. -/
def execLdyZp (b : Byte) (s : State) : Result := opLdy (.mem (.zp b)) 3 s

/-- `$AC` LDY $hhll (R302, R179): 3 bytes, 4 cycles. -/
def execLdyAbs (w : Word) (s : State) : Result := opLdy (.mem (.abs w)) 4 s

/-- `$B4` LDY $nn,X (R302, R174): 2 bytes, 4 cycles. -/
def execLdyZpx (b : Byte) (s : State) : Result := opLdy (.mem (.zpx b)) 4 s

/-- `$BC` LDY $hhll,X (R302, R180): 3 bytes, 4 cycles, one more when the index crosses a page (R185). -/
def execLdyAbsx (w : Word) (s : State) : Result := opLdy (.mem (.absx w)) 4 s

/-- `$81` STA ($nn,X) (R303, R176): 2 bytes, 6 cycles. -/
def execStaIndx (b : Byte) (s : State) : Result := opSta (.indx b) 6 s

/-- `$85` STA $nn (R303, R173): 2 bytes, 3 cycles. -/
def execStaZp (b : Byte) (s : State) : Result := opSta (.zp b) 3 s

/-- `$8D` STA $hhll (R303, R179): 3 bytes, 4 cycles. -/
def execStaAbs (w : Word) (s : State) : Result := opSta (.abs w) 4 s

/-- `$91` STA ($nn),Y (R303, R177): 2 bytes, 6 cycles. -/
def execStaIndy (b : Byte) (s : State) : Result := opSta (.indy b) 6 s

/-- `$95` STA $nn,X (R303, R174): 2 bytes, 4 cycles. -/
def execStaZpx (b : Byte) (s : State) : Result := opSta (.zpx b) 4 s

/-- `$99` STA $hhll,Y (R303, R181): 3 bytes, 5 cycles. -/
def execStaAbsy (w : Word) (s : State) : Result := opSta (.absy w) 5 s

/-- `$9D` STA $hhll,X (R303, R180): 3 bytes, 5 cycles. -/
def execStaAbsx (w : Word) (s : State) : Result := opSta (.absx w) 5 s

/-- `$86` STX $nn (R304, R173): 2 bytes, 3 cycles. -/
def execStxZp (b : Byte) (s : State) : Result := opStx (.zp b) 3 s

/-- `$8E` STX $hhll (R304, R179): 3 bytes, 4 cycles. -/
def execStxAbs (w : Word) (s : State) : Result := opStx (.abs w) 4 s

/-- `$96` STX $nn,Y (R304, R175): 2 bytes, 4 cycles. -/
def execStxZpy (b : Byte) (s : State) : Result := opStx (.zpy b) 4 s

/-- `$84` STY $nn (R305, R173): 2 bytes, 3 cycles. -/
def execStyZp (b : Byte) (s : State) : Result := opSty (.zp b) 3 s

/-- `$8C` STY $hhll (R305, R179): 3 bytes, 4 cycles. -/
def execStyAbs (w : Word) (s : State) : Result := opSty (.abs w) 4 s

/-- `$94` STY $nn,X (R305, R174): 2 bytes, 4 cycles. -/
def execStyZpx (b : Byte) (s : State) : Result := opSty (.zpx b) 4 s

end Sys2Proof.Machine
end

