-- ==== Sys2Proof/Machine/Shift.lean ====
section
/-! DEFINITION. Shifts and rotates by one bit (46_shift.md R365 to R368), on A or on a memory byte. -/

namespace Sys2Proof.Machine

/-- ASL (R365). -/
def opAsl (t : Target) (base : Nat) (s : State) : Result := shiftClass t base shiftLeft s

/-- LSR (R366). -/
def opLsr (t : Target) (base : Nat) (s : State) : Result := shiftClass t base shiftRight s

/-- ROL (R367). -/
def opRol (t : Target) (base : Nat) (s : State) : Result := shiftClass t base rotateLeft s

/-- ROR (R368). -/
def opRor (t : Target) (base : Nat) (s : State) : Result := shiftClass t base rotateRight s

/-- `$06` ASL $nn (R365, R173): 2 bytes, 5 cycles. -/
def execAslZp (b : Byte) (s : State) : Result := opAsl (.mem (.zp b)) 5 s

/-- `$0A` ASL A (R365, R171): 1 byte, 2 cycles. -/
def execAslAcc (s : State) : Result := opAsl .acc 2 s

/-- `$0E` ASL $hhll (R365, R179): 3 bytes, 6 cycles. -/
def execAslAbs (w : Word) (s : State) : Result := opAsl (.mem (.abs w)) 6 s

/-- `$16` ASL $nn,X (R365, R174): 2 bytes, 6 cycles. -/
def execAslZpx (b : Byte) (s : State) : Result := opAsl (.mem (.zpx b)) 6 s

/-- `$1E` ASL $hhll,X (R365, R180): 3 bytes, 7 cycles. -/
def execAslAbsx (w : Word) (s : State) : Result := opAsl (.mem (.absx w)) 7 s

/-- `$46` LSR $nn (R366, R173): 2 bytes, 5 cycles. -/
def execLsrZp (b : Byte) (s : State) : Result := opLsr (.mem (.zp b)) 5 s

/-- `$4A` LSR A (R366, R171): 1 byte, 2 cycles. -/
def execLsrAcc (s : State) : Result := opLsr .acc 2 s

/-- `$4E` LSR $hhll (R366, R179): 3 bytes, 6 cycles. -/
def execLsrAbs (w : Word) (s : State) : Result := opLsr (.mem (.abs w)) 6 s

/-- `$56` LSR $nn,X (R366, R174): 2 bytes, 6 cycles. -/
def execLsrZpx (b : Byte) (s : State) : Result := opLsr (.mem (.zpx b)) 6 s

/-- `$5E` LSR $hhll,X (R366, R180): 3 bytes, 7 cycles. -/
def execLsrAbsx (w : Word) (s : State) : Result := opLsr (.mem (.absx w)) 7 s

/-- `$26` ROL $nn (R367, R173): 2 bytes, 5 cycles. -/
def execRolZp (b : Byte) (s : State) : Result := opRol (.mem (.zp b)) 5 s

/-- `$2A` ROL A (R367, R171): 1 byte, 2 cycles. -/
def execRolAcc (s : State) : Result := opRol .acc 2 s

/-- `$2E` ROL $hhll (R367, R179): 3 bytes, 6 cycles. -/
def execRolAbs (w : Word) (s : State) : Result := opRol (.mem (.abs w)) 6 s

/-- `$36` ROL $nn,X (R367, R174): 2 bytes, 6 cycles. -/
def execRolZpx (b : Byte) (s : State) : Result := opRol (.mem (.zpx b)) 6 s

/-- `$3E` ROL $hhll,X (R367, R180): 3 bytes, 7 cycles. -/
def execRolAbsx (w : Word) (s : State) : Result := opRol (.mem (.absx w)) 7 s

/-- `$66` ROR $nn (R368, R173): 2 bytes, 5 cycles. -/
def execRorZp (b : Byte) (s : State) : Result := opRor (.mem (.zp b)) 5 s

/-- `$6A` ROR A (R368, R171): 1 byte, 2 cycles. -/
def execRorAcc (s : State) : Result := opRor .acc 2 s

/-- `$6E` ROR $hhll (R368, R179): 3 bytes, 6 cycles. -/
def execRorAbs (w : Word) (s : State) : Result := opRor (.mem (.abs w)) 6 s

/-- `$76` ROR $nn,X (R368, R174): 2 bytes, 6 cycles. -/
def execRorZpx (b : Byte) (s : State) : Result := opRor (.mem (.zpx b)) 6 s

/-- `$7E` ROR $hhll,X (R368, R180): 3 bytes, 7 cycles. -/
def execRorAbsx (w : Word) (s : State) : Result := opRor (.mem (.absx w)) 7 s

end Sys2Proof.Machine
end

