-- ==== Sys2Proof/Machine/Stack.lean ====
section
/-! DEFINITION. Stack instructions (42_stack.md R320 to R323) over `push` and `pull`. -/

namespace Sys2Proof.Machine

/-- `$48` PHA (R320, R170): 1 byte, 3 cycles. -/
def execPha (s : State) : Result := implied 3 (fun s => push s.a s) s

/-- `$08` PHP (R321, R170): 1 byte, 3 cycles. -/
def execPhp (s : State) : Result := implied 3 (fun s => push (packP true s.p) s) s

/-- `$68` PLA (R322, R170): 1 byte, 4 cycles. -/
def execPla (s : State) : Result :=
  implied 4 (fun s => let v := pull s; { v.2 with a := v.1, p := setNZ v.1 v.2.p }) s

/-- `$28` PLP (R323, R170): 1 byte, 4 cycles. -/
def execPlp (s : State) : Result := implied 4 (fun s => let v := pull s; { v.2 with p := unpackP v.1 }) s

end Sys2Proof.Machine
end

