-- ==== Sys2Proof/Machine/System.lean ====
section
/-! DEFINITION. Flag instructions, NOP, BRK and RTI (48_flags_system.md R400 to R410). -/

namespace Sys2Proof.Machine

/-- `$18` CLC (R400, R170): 1 byte, 2 cycles. -/
def execClc (s : State) : Result := implied 2 (fun s => { s with p := { s.p with c := false } }) s

/-- `$38` SEC (R401, R170): 1 byte, 2 cycles. -/
def execSec (s : State) : Result := implied 2 (fun s => { s with p := { s.p with c := true } }) s

/-- `$58` CLI (R402, R170): 1 byte, 2 cycles. -/
def execCli (s : State) : Result := implied 2 (fun s => { s with p := { s.p with i := false } }) s

/-- `$78` SEI (R403, R170): 1 byte, 2 cycles. -/
def execSei (s : State) : Result := implied 2 (fun s => { s with p := { s.p with i := true } }) s

/-- `$D8` CLD (R404, R170): 1 byte, 2 cycles. -/
def execCld (s : State) : Result := implied 2 (fun s => { s with p := { s.p with d := false } }) s

/-- `$F8` SED (R405, R170): 1 byte, 2 cycles. -/
def execSed (s : State) : Result := implied 2 (fun s => { s with p := { s.p with d := true } }) s

/-- `$B8` CLV (R406, R170): 1 byte, 2 cycles. -/
def execClv (s : State) : Result := implied 2 (fun s => { s with p := { s.p with v := false } }) s

/-- `$EA` NOP (R408, R170): 1 byte, 2 cycles. -/
def execNop (s : State) : Result := implied 2 (fun s => s) s

/-- `$00` BRK (R409, R170): 1 byte, 7 cycles. -/
def execBrk (s : State) : Result := implied 7 (fun s => enterInterrupt irqVector (s.pc + 1) true s) s

/-- `$40` RTI (R410, R170): 1 byte, 6 cycles. -/
def execRti (s : State) : Result := implied 6 returnFromInterrupt s

end Sys2Proof.Machine
end

