-- ==== Sys2Proof/Machine/Transfer.lean ====
section
/-! DEFINITION. Register transfers (41_transfer.md R310 to R315). Every one but TXS sets N and Z from the copied byte. -/

namespace Sys2Proof.Machine

/-- `$AA` TAX (R310, R170): 1 byte, 2 cycles. -/
def execTax (s : State) : Result := implied 2 (fun s => { s with x := s.a, p := setNZ s.a s.p }) s

/-- `$A8` TAY (R311, R170): 1 byte, 2 cycles. -/
def execTay (s : State) : Result := implied 2 (fun s => { s with y := s.a, p := setNZ s.a s.p }) s

/-- `$8A` TXA (R312, R170): 1 byte, 2 cycles. -/
def execTxa (s : State) : Result := implied 2 (fun s => { s with a := s.x, p := setNZ s.x s.p }) s

/-- `$98` TYA (R313, R170): 1 byte, 2 cycles. -/
def execTya (s : State) : Result := implied 2 (fun s => { s with a := s.y, p := setNZ s.y s.p }) s

/-- `$BA` TSX (R314, R170): 1 byte, 2 cycles. -/
def execTsx (s : State) : Result := implied 2 (fun s => { s with x := s.sp, p := setNZ s.sp s.p }) s

/-- `$9A` TXS (R315, R170): 1 byte, 2 cycles. -/
def execTxs (s : State) : Result := implied 2 (fun s => { s with sp := s.x }) s

end Sys2Proof.Machine
end

