-- ==== Sys2Proof/Machine/Arith.lean ====
section
/-! DEFINITION. Add, subtract and compare (43_arithmetic.md R330 to R344): binary whatever D holds (R331, R334). -/

namespace Sys2Proof.Machine

/-- Add with carry into A (R330): the byte of the exact sum, and N, V, Z, C of it. -/
def adcA (m : Byte) (s : State) : State := { s with a := addByte s.a m s.p.c, p := addFlags s.a m s.p }

/-- Subtract with borrow from A (R333): the addition with M' = ~M (R335). -/
def sbcA (m : Byte) (s : State) : State := adcA (~~~m) s

/-- ADC (R330). -/
def opAdc (o : Source) (base : Nat) (s : State) : Result := readClass o base adcA s

/-- SBC (R333). -/
def opSbc (o : Source) (base : Nat) (s : State) : Result := readClass o base sbcA s

/-- CMP (R336): `Compare(A, M)`. -/
def opCmp (o : Source) (base : Nat) (s : State) : Result :=
  readClass o base (fun m s => { s with p := compareFlags s.a m s.p }) s

/-- CPX (R337): `Compare(X, M)`. -/
def opCpx (o : Source) (base : Nat) (s : State) : Result :=
  readClass o base (fun m s => { s with p := compareFlags s.x m s.p }) s

/-- CPY (R338): `Compare(Y, M)`. -/
def opCpy (o : Source) (base : Nat) (s : State) : Result :=
  readClass o base (fun m s => { s with p := compareFlags s.y m s.p }) s

/-- `$61` ADC ($nn,X) (R330, R176): 2 bytes, 6 cycles. -/
def execAdcIndx (b : Byte) (s : State) : Result := opAdc (.mem (.indx b)) 6 s

/-- `$65` ADC $nn (R330, R173): 2 bytes, 3 cycles. -/
def execAdcZp (b : Byte) (s : State) : Result := opAdc (.mem (.zp b)) 3 s

/-- `$69` ADC #$nn (R330, R172): 2 bytes, 2 cycles. -/
def execAdcImm (b : Byte) (s : State) : Result := opAdc (.imm b) 2 s

/-- `$6D` ADC $hhll (R330, R179): 3 bytes, 4 cycles. -/
def execAdcAbs (w : Word) (s : State) : Result := opAdc (.mem (.abs w)) 4 s

/-- `$71` ADC ($nn),Y (R330, R177): 2 bytes, 5 cycles, one more when the index crosses a page (R185). -/
def execAdcIndy (b : Byte) (s : State) : Result := opAdc (.mem (.indy b)) 5 s

/-- `$75` ADC $nn,X (R330, R174): 2 bytes, 4 cycles. -/
def execAdcZpx (b : Byte) (s : State) : Result := opAdc (.mem (.zpx b)) 4 s

/-- `$79` ADC $hhll,Y (R330, R181): 3 bytes, 4 cycles, one more when the index crosses a page (R185). -/
def execAdcAbsy (w : Word) (s : State) : Result := opAdc (.mem (.absy w)) 4 s

/-- `$7D` ADC $hhll,X (R330, R180): 3 bytes, 4 cycles, one more when the index crosses a page (R185). -/
def execAdcAbsx (w : Word) (s : State) : Result := opAdc (.mem (.absx w)) 4 s

/-- `$E1` SBC ($nn,X) (R333, R176): 2 bytes, 6 cycles. -/
def execSbcIndx (b : Byte) (s : State) : Result := opSbc (.mem (.indx b)) 6 s

/-- `$E5` SBC $nn (R333, R173): 2 bytes, 3 cycles. -/
def execSbcZp (b : Byte) (s : State) : Result := opSbc (.mem (.zp b)) 3 s

/-- `$E9` SBC #$nn (R333, R172): 2 bytes, 2 cycles. -/
def execSbcImm (b : Byte) (s : State) : Result := opSbc (.imm b) 2 s

/-- `$ED` SBC $hhll (R333, R179): 3 bytes, 4 cycles. -/
def execSbcAbs (w : Word) (s : State) : Result := opSbc (.mem (.abs w)) 4 s

/-- `$F1` SBC ($nn),Y (R333, R177): 2 bytes, 5 cycles, one more when the index crosses a page (R185). -/
def execSbcIndy (b : Byte) (s : State) : Result := opSbc (.mem (.indy b)) 5 s

/-- `$F5` SBC $nn,X (R333, R174): 2 bytes, 4 cycles. -/
def execSbcZpx (b : Byte) (s : State) : Result := opSbc (.mem (.zpx b)) 4 s

/-- `$F9` SBC $hhll,Y (R333, R181): 3 bytes, 4 cycles, one more when the index crosses a page (R185). -/
def execSbcAbsy (w : Word) (s : State) : Result := opSbc (.mem (.absy w)) 4 s

/-- `$FD` SBC $hhll,X (R333, R180): 3 bytes, 4 cycles, one more when the index crosses a page (R185). -/
def execSbcAbsx (w : Word) (s : State) : Result := opSbc (.mem (.absx w)) 4 s

/-- `$C1` CMP ($nn,X) (R336, R176): 2 bytes, 6 cycles. -/
def execCmpIndx (b : Byte) (s : State) : Result := opCmp (.mem (.indx b)) 6 s

/-- `$C5` CMP $nn (R336, R173): 2 bytes, 3 cycles. -/
def execCmpZp (b : Byte) (s : State) : Result := opCmp (.mem (.zp b)) 3 s

/-- `$C9` CMP #$nn (R336, R172): 2 bytes, 2 cycles. -/
def execCmpImm (b : Byte) (s : State) : Result := opCmp (.imm b) 2 s

/-- `$CD` CMP $hhll (R336, R179): 3 bytes, 4 cycles. -/
def execCmpAbs (w : Word) (s : State) : Result := opCmp (.mem (.abs w)) 4 s

/-- `$D1` CMP ($nn),Y (R336, R177): 2 bytes, 5 cycles, one more when the index crosses a page (R185). -/
def execCmpIndy (b : Byte) (s : State) : Result := opCmp (.mem (.indy b)) 5 s

/-- `$D5` CMP $nn,X (R336, R174): 2 bytes, 4 cycles. -/
def execCmpZpx (b : Byte) (s : State) : Result := opCmp (.mem (.zpx b)) 4 s

/-- `$D9` CMP $hhll,Y (R336, R181): 3 bytes, 4 cycles, one more when the index crosses a page (R185). -/
def execCmpAbsy (w : Word) (s : State) : Result := opCmp (.mem (.absy w)) 4 s

/-- `$DD` CMP $hhll,X (R336, R180): 3 bytes, 4 cycles, one more when the index crosses a page (R185). -/
def execCmpAbsx (w : Word) (s : State) : Result := opCmp (.mem (.absx w)) 4 s

/-- `$E0` CPX #$nn (R337, R172): 2 bytes, 2 cycles. -/
def execCpxImm (b : Byte) (s : State) : Result := opCpx (.imm b) 2 s

/-- `$E4` CPX $nn (R337, R173): 2 bytes, 3 cycles. -/
def execCpxZp (b : Byte) (s : State) : Result := opCpx (.mem (.zp b)) 3 s

/-- `$EC` CPX $hhll (R337, R179): 3 bytes, 4 cycles. -/
def execCpxAbs (w : Word) (s : State) : Result := opCpx (.mem (.abs w)) 4 s

/-- `$C0` CPY #$nn (R338, R172): 2 bytes, 2 cycles. -/
def execCpyImm (b : Byte) (s : State) : Result := opCpy (.imm b) 2 s

/-- `$C4` CPY $nn (R338, R173): 2 bytes, 3 cycles. -/
def execCpyZp (b : Byte) (s : State) : Result := opCpy (.mem (.zp b)) 3 s

/-- `$CC` CPY $hhll (R338, R179): 3 bytes, 4 cycles. -/
def execCpyAbs (w : Word) (s : State) : Result := opCpy (.mem (.abs w)) 4 s

end Sys2Proof.Machine
end

