-- ==== Sys2Proof/Machine/Logic.lean ====
section
/-! DEFINITION. Logical operations and BIT (45_logical.md R355 to R358). -/

namespace Sys2Proof.Machine

/-- `A <- r; SetNZ(A)`, the end of AND, ORA and EOR (R355 to R357). -/
def setA (r : Byte) (s : State) : State := { s with a := r, p := setNZ r s.p }

/-- AND (R355). -/
def opAnd (o : Source) (base : Nat) (s : State) : Result := readClass o base (fun m s => setA (s.a &&& m) s) s

/-- ORA (R356). -/
def opOra (o : Source) (base : Nat) (s : State) : Result := readClass o base (fun m s => setA (s.a ||| m) s) s

/-- EOR (R357). -/
def opEor (o : Source) (base : Nat) (s : State) : Result := readClass o base (fun m s => setA (s.a ^^^ m) s) s

/-- BIT (R358): A is not written. -/
def opBit (m : MemOperand) (base : Nat) (s : State) : Result :=
  readClass (.mem m) base (fun m s => { s with p := bitFlags s.a m s.p }) s

/-- `$21` AND ($nn,X) (R355, R176): 2 bytes, 6 cycles. -/
def execAndIndx (b : Byte) (s : State) : Result := opAnd (.mem (.indx b)) 6 s

/-- `$25` AND $nn (R355, R173): 2 bytes, 3 cycles. -/
def execAndZp (b : Byte) (s : State) : Result := opAnd (.mem (.zp b)) 3 s

/-- `$29` AND #$nn (R355, R172): 2 bytes, 2 cycles. -/
def execAndImm (b : Byte) (s : State) : Result := opAnd (.imm b) 2 s

/-- `$2D` AND $hhll (R355, R179): 3 bytes, 4 cycles. -/
def execAndAbs (w : Word) (s : State) : Result := opAnd (.mem (.abs w)) 4 s

/-- `$31` AND ($nn),Y (R355, R177): 2 bytes, 5 cycles, one more when the index crosses a page (R185). -/
def execAndIndy (b : Byte) (s : State) : Result := opAnd (.mem (.indy b)) 5 s

/-- `$35` AND $nn,X (R355, R174): 2 bytes, 4 cycles. -/
def execAndZpx (b : Byte) (s : State) : Result := opAnd (.mem (.zpx b)) 4 s

/-- `$39` AND $hhll,Y (R355, R181): 3 bytes, 4 cycles, one more when the index crosses a page (R185). -/
def execAndAbsy (w : Word) (s : State) : Result := opAnd (.mem (.absy w)) 4 s

/-- `$3D` AND $hhll,X (R355, R180): 3 bytes, 4 cycles, one more when the index crosses a page (R185). -/
def execAndAbsx (w : Word) (s : State) : Result := opAnd (.mem (.absx w)) 4 s

/-- `$01` ORA ($nn,X) (R356, R176): 2 bytes, 6 cycles. -/
def execOraIndx (b : Byte) (s : State) : Result := opOra (.mem (.indx b)) 6 s

/-- `$05` ORA $nn (R356, R173): 2 bytes, 3 cycles. -/
def execOraZp (b : Byte) (s : State) : Result := opOra (.mem (.zp b)) 3 s

/-- `$09` ORA #$nn (R356, R172): 2 bytes, 2 cycles. -/
def execOraImm (b : Byte) (s : State) : Result := opOra (.imm b) 2 s

/-- `$0D` ORA $hhll (R356, R179): 3 bytes, 4 cycles. -/
def execOraAbs (w : Word) (s : State) : Result := opOra (.mem (.abs w)) 4 s

/-- `$11` ORA ($nn),Y (R356, R177): 2 bytes, 5 cycles, one more when the index crosses a page (R185). -/
def execOraIndy (b : Byte) (s : State) : Result := opOra (.mem (.indy b)) 5 s

/-- `$15` ORA $nn,X (R356, R174): 2 bytes, 4 cycles. -/
def execOraZpx (b : Byte) (s : State) : Result := opOra (.mem (.zpx b)) 4 s

/-- `$19` ORA $hhll,Y (R356, R181): 3 bytes, 4 cycles, one more when the index crosses a page (R185). -/
def execOraAbsy (w : Word) (s : State) : Result := opOra (.mem (.absy w)) 4 s

/-- `$1D` ORA $hhll,X (R356, R180): 3 bytes, 4 cycles, one more when the index crosses a page (R185). -/
def execOraAbsx (w : Word) (s : State) : Result := opOra (.mem (.absx w)) 4 s

/-- `$41` EOR ($nn,X) (R357, R176): 2 bytes, 6 cycles. -/
def execEorIndx (b : Byte) (s : State) : Result := opEor (.mem (.indx b)) 6 s

/-- `$45` EOR $nn (R357, R173): 2 bytes, 3 cycles. -/
def execEorZp (b : Byte) (s : State) : Result := opEor (.mem (.zp b)) 3 s

/-- `$49` EOR #$nn (R357, R172): 2 bytes, 2 cycles. -/
def execEorImm (b : Byte) (s : State) : Result := opEor (.imm b) 2 s

/-- `$4D` EOR $hhll (R357, R179): 3 bytes, 4 cycles. -/
def execEorAbs (w : Word) (s : State) : Result := opEor (.mem (.abs w)) 4 s

/-- `$51` EOR ($nn),Y (R357, R177): 2 bytes, 5 cycles, one more when the index crosses a page (R185). -/
def execEorIndy (b : Byte) (s : State) : Result := opEor (.mem (.indy b)) 5 s

/-- `$55` EOR $nn,X (R357, R174): 2 bytes, 4 cycles. -/
def execEorZpx (b : Byte) (s : State) : Result := opEor (.mem (.zpx b)) 4 s

/-- `$59` EOR $hhll,Y (R357, R181): 3 bytes, 4 cycles, one more when the index crosses a page (R185). -/
def execEorAbsy (w : Word) (s : State) : Result := opEor (.mem (.absy w)) 4 s

/-- `$5D` EOR $hhll,X (R357, R180): 3 bytes, 4 cycles, one more when the index crosses a page (R185). -/
def execEorAbsx (w : Word) (s : State) : Result := opEor (.mem (.absx w)) 4 s

/-- `$24` BIT $nn (R358, R173): 2 bytes, 3 cycles. -/
def execBitZp (b : Byte) (s : State) : Result := opBit (.zp b) 3 s

/-- `$2C` BIT $hhll (R358, R179): 3 bytes, 4 cycles. -/
def execBitAbs (w : Word) (s : State) : Result := opBit (.abs w) 4 s

end Sys2Proof.Machine
end

