-- ==== Sys2Proof/Machine/Undocumented.lean ====
section
/-! DEFINITION. The undocumented opcodes (49_undocumented.md R420 to R442): 86 with the stable NMOS behaviour, 19 that halt. -/

namespace Sys2Proof.Machine

/-- The undocumented NOP forms with an operand (R421): the immediate byte, or the byte read at EA, is discarded. -/
def opNop (o : Source) (base : Nat) (s : State) : Result := readClass o base (fun _ s => s) s

/-- SLO (R422): shift left in memory, then `A <- A | r; SetNZ(A)`. -/
def opSlo (m : MemOperand) (base : Nat) (s : State) : Result :=
  modifyClass m base shiftLeft (fun r s => setA (s.a ||| r) s) s

/-- RLA (R423): rotate left in memory, then `A <- A & r; SetNZ(A)`. -/
def opRla (m : MemOperand) (base : Nat) (s : State) : Result :=
  modifyClass m base rotateLeft (fun r s => setA (s.a &&& r) s) s

/-- SRE (R424): shift right in memory, then `A <- A ^ r; SetNZ(A)`. -/
def opSre (m : MemOperand) (base : Nat) (s : State) : Result :=
  modifyClass m base shiftRight (fun r s => setA (s.a ^^^ r) s) s

/-- RRA (R425): rotate right in memory, then ADC with the rotated byte and the carry the rotation left. -/
def opRra (m : MemOperand) (base : Nat) (s : State) : Result := modifyClass m base rotateRight adcA s

/-- SAX (R426): `MemWrite(EA, 1, A & X)`. -/
def opSax (m : MemOperand) (base : Nat) (s : State) : Result := writeClass m base (fun s => s.a &&& s.x) s

/-- LAX (R427): `A <- M; X <- M; SetNZ(M)`. -/
def opLax (m : MemOperand) (base : Nat) (s : State) : Result :=
  readClass (.mem m) base (fun v s => { s with a := v, x := v, p := setNZ v s.p }) s

/-- DCP (R428): decrement in memory, then `Compare(A, r)`. -/
def opDcp (m : MemOperand) (base : Nat) (s : State) : Result :=
  modifyClass m base decrement (fun r s => { s with p := compareFlags s.a r s.p }) s

/-- ISC (R429): increment in memory, then SBC with the incremented byte. -/
def opIsc (m : MemOperand) (base : Nat) (s : State) : Result := modifyClass m base increment sbcA s

/-- ANC (R430): `A <- A & b1; SetNZ(A); P.C <- A[7]`. -/
def opAnc (b : Byte) (base : Nat) (s : State) : Result :=
  readClass (.imm b) base (fun m s => { s with a := s.a &&& m, p := ancFlags (s.a &&& m) s.p }) s

/-- `$04` NOP $nn (R421, R173): 2 bytes, 3 cycles. -/
def execNopZp04 (b : Byte) (s : State) : Result := opNop (.mem (.zp b)) 3 s

/-- `$0C` NOP $hhll (R421, R179): 3 bytes, 4 cycles. -/
def execNopAbs0C (w : Word) (s : State) : Result := opNop (.mem (.abs w)) 4 s

/-- `$14` NOP $nn,X (R421, R174): 2 bytes, 4 cycles. -/
def execNopZpx14 (b : Byte) (s : State) : Result := opNop (.mem (.zpx b)) 4 s

/-- `$1A` NOP (R421, R170): 1 byte, 2 cycles. -/
def execNopImp1A (s : State) : Result := implied 2 (fun s => s) s

/-- `$1C` NOP $hhll,X (R421, R180): 3 bytes, 4 cycles, one more when the index crosses a page (R185). -/
def execNopAbsx1C (w : Word) (s : State) : Result := opNop (.mem (.absx w)) 4 s

/-- `$34` NOP $nn,X (R421, R174): 2 bytes, 4 cycles. -/
def execNopZpx34 (b : Byte) (s : State) : Result := opNop (.mem (.zpx b)) 4 s

/-- `$3A` NOP (R421, R170): 1 byte, 2 cycles. -/
def execNopImp3A (s : State) : Result := implied 2 (fun s => s) s

/-- `$3C` NOP $hhll,X (R421, R180): 3 bytes, 4 cycles, one more when the index crosses a page (R185). -/
def execNopAbsx3C (w : Word) (s : State) : Result := opNop (.mem (.absx w)) 4 s

/-- `$44` NOP $nn (R421, R173): 2 bytes, 3 cycles. -/
def execNopZp44 (b : Byte) (s : State) : Result := opNop (.mem (.zp b)) 3 s

/-- `$54` NOP $nn,X (R421, R174): 2 bytes, 4 cycles. -/
def execNopZpx54 (b : Byte) (s : State) : Result := opNop (.mem (.zpx b)) 4 s

/-- `$5A` NOP (R421, R170): 1 byte, 2 cycles. -/
def execNopImp5A (s : State) : Result := implied 2 (fun s => s) s

/-- `$5C` NOP $hhll,X (R421, R180): 3 bytes, 4 cycles, one more when the index crosses a page (R185). -/
def execNopAbsx5C (w : Word) (s : State) : Result := opNop (.mem (.absx w)) 4 s

/-- `$64` NOP $nn (R421, R173): 2 bytes, 3 cycles. -/
def execNopZp64 (b : Byte) (s : State) : Result := opNop (.mem (.zp b)) 3 s

/-- `$74` NOP $nn,X (R421, R174): 2 bytes, 4 cycles. -/
def execNopZpx74 (b : Byte) (s : State) : Result := opNop (.mem (.zpx b)) 4 s

/-- `$7A` NOP (R421, R170): 1 byte, 2 cycles. -/
def execNopImp7A (s : State) : Result := implied 2 (fun s => s) s

/-- `$7C` NOP $hhll,X (R421, R180): 3 bytes, 4 cycles, one more when the index crosses a page (R185). -/
def execNopAbsx7C (w : Word) (s : State) : Result := opNop (.mem (.absx w)) 4 s

/-- `$80` NOP #$nn (R421, R172): 2 bytes, 2 cycles. -/
def execNopImm80 (b : Byte) (s : State) : Result := opNop (.imm b) 2 s

/-- `$82` NOP #$nn (R421, R172): 2 bytes, 2 cycles. -/
def execNopImm82 (b : Byte) (s : State) : Result := opNop (.imm b) 2 s

/-- `$89` NOP #$nn (R421, R172): 2 bytes, 2 cycles. -/
def execNopImm89 (b : Byte) (s : State) : Result := opNop (.imm b) 2 s

/-- `$C2` NOP #$nn (R421, R172): 2 bytes, 2 cycles. -/
def execNopImmC2 (b : Byte) (s : State) : Result := opNop (.imm b) 2 s

/-- `$D4` NOP $nn,X (R421, R174): 2 bytes, 4 cycles. -/
def execNopZpxD4 (b : Byte) (s : State) : Result := opNop (.mem (.zpx b)) 4 s

/-- `$DA` NOP (R421, R170): 1 byte, 2 cycles. -/
def execNopImpDA (s : State) : Result := implied 2 (fun s => s) s

/-- `$DC` NOP $hhll,X (R421, R180): 3 bytes, 4 cycles, one more when the index crosses a page (R185). -/
def execNopAbsxDC (w : Word) (s : State) : Result := opNop (.mem (.absx w)) 4 s

/-- `$E2` NOP #$nn (R421, R172): 2 bytes, 2 cycles. -/
def execNopImmE2 (b : Byte) (s : State) : Result := opNop (.imm b) 2 s

/-- `$F4` NOP $nn,X (R421, R174): 2 bytes, 4 cycles. -/
def execNopZpxF4 (b : Byte) (s : State) : Result := opNop (.mem (.zpx b)) 4 s

/-- `$FA` NOP (R421, R170): 1 byte, 2 cycles. -/
def execNopImpFA (s : State) : Result := implied 2 (fun s => s) s

/-- `$FC` NOP $hhll,X (R421, R180): 3 bytes, 4 cycles, one more when the index crosses a page (R185). -/
def execNopAbsxFC (w : Word) (s : State) : Result := opNop (.mem (.absx w)) 4 s

/-- `$03` SLO ($nn,X) (R422, R176): 2 bytes, 8 cycles. -/
def execSloIndx (b : Byte) (s : State) : Result := opSlo (.indx b) 8 s

/-- `$07` SLO $nn (R422, R173): 2 bytes, 5 cycles. -/
def execSloZp (b : Byte) (s : State) : Result := opSlo (.zp b) 5 s

/-- `$0F` SLO $hhll (R422, R179): 3 bytes, 6 cycles. -/
def execSloAbs (w : Word) (s : State) : Result := opSlo (.abs w) 6 s

/-- `$13` SLO ($nn),Y (R422, R177): 2 bytes, 8 cycles. -/
def execSloIndy (b : Byte) (s : State) : Result := opSlo (.indy b) 8 s

/-- `$17` SLO $nn,X (R422, R174): 2 bytes, 6 cycles. -/
def execSloZpx (b : Byte) (s : State) : Result := opSlo (.zpx b) 6 s

/-- `$1B` SLO $hhll,Y (R422, R181): 3 bytes, 7 cycles. -/
def execSloAbsy (w : Word) (s : State) : Result := opSlo (.absy w) 7 s

/-- `$1F` SLO $hhll,X (R422, R180): 3 bytes, 7 cycles. -/
def execSloAbsx (w : Word) (s : State) : Result := opSlo (.absx w) 7 s

/-- `$23` RLA ($nn,X) (R423, R176): 2 bytes, 8 cycles. -/
def execRlaIndx (b : Byte) (s : State) : Result := opRla (.indx b) 8 s

/-- `$27` RLA $nn (R423, R173): 2 bytes, 5 cycles. -/
def execRlaZp (b : Byte) (s : State) : Result := opRla (.zp b) 5 s

/-- `$2F` RLA $hhll (R423, R179): 3 bytes, 6 cycles. -/
def execRlaAbs (w : Word) (s : State) : Result := opRla (.abs w) 6 s

/-- `$33` RLA ($nn),Y (R423, R177): 2 bytes, 8 cycles. -/
def execRlaIndy (b : Byte) (s : State) : Result := opRla (.indy b) 8 s

/-- `$37` RLA $nn,X (R423, R174): 2 bytes, 6 cycles. -/
def execRlaZpx (b : Byte) (s : State) : Result := opRla (.zpx b) 6 s

/-- `$3B` RLA $hhll,Y (R423, R181): 3 bytes, 7 cycles. -/
def execRlaAbsy (w : Word) (s : State) : Result := opRla (.absy w) 7 s

/-- `$3F` RLA $hhll,X (R423, R180): 3 bytes, 7 cycles. -/
def execRlaAbsx (w : Word) (s : State) : Result := opRla (.absx w) 7 s

/-- `$43` SRE ($nn,X) (R424, R176): 2 bytes, 8 cycles. -/
def execSreIndx (b : Byte) (s : State) : Result := opSre (.indx b) 8 s

/-- `$47` SRE $nn (R424, R173): 2 bytes, 5 cycles. -/
def execSreZp (b : Byte) (s : State) : Result := opSre (.zp b) 5 s

/-- `$4F` SRE $hhll (R424, R179): 3 bytes, 6 cycles. -/
def execSreAbs (w : Word) (s : State) : Result := opSre (.abs w) 6 s

/-- `$53` SRE ($nn),Y (R424, R177): 2 bytes, 8 cycles. -/
def execSreIndy (b : Byte) (s : State) : Result := opSre (.indy b) 8 s

/-- `$57` SRE $nn,X (R424, R174): 2 bytes, 6 cycles. -/
def execSreZpx (b : Byte) (s : State) : Result := opSre (.zpx b) 6 s

/-- `$5B` SRE $hhll,Y (R424, R181): 3 bytes, 7 cycles. -/
def execSreAbsy (w : Word) (s : State) : Result := opSre (.absy w) 7 s

/-- `$5F` SRE $hhll,X (R424, R180): 3 bytes, 7 cycles. -/
def execSreAbsx (w : Word) (s : State) : Result := opSre (.absx w) 7 s

/-- `$63` RRA ($nn,X) (R425, R176): 2 bytes, 8 cycles. -/
def execRraIndx (b : Byte) (s : State) : Result := opRra (.indx b) 8 s

/-- `$67` RRA $nn (R425, R173): 2 bytes, 5 cycles. -/
def execRraZp (b : Byte) (s : State) : Result := opRra (.zp b) 5 s

/-- `$6F` RRA $hhll (R425, R179): 3 bytes, 6 cycles. -/
def execRraAbs (w : Word) (s : State) : Result := opRra (.abs w) 6 s

/-- `$73` RRA ($nn),Y (R425, R177): 2 bytes, 8 cycles. -/
def execRraIndy (b : Byte) (s : State) : Result := opRra (.indy b) 8 s

/-- `$77` RRA $nn,X (R425, R174): 2 bytes, 6 cycles. -/
def execRraZpx (b : Byte) (s : State) : Result := opRra (.zpx b) 6 s

/-- `$7B` RRA $hhll,Y (R425, R181): 3 bytes, 7 cycles. -/
def execRraAbsy (w : Word) (s : State) : Result := opRra (.absy w) 7 s

/-- `$7F` RRA $hhll,X (R425, R180): 3 bytes, 7 cycles. -/
def execRraAbsx (w : Word) (s : State) : Result := opRra (.absx w) 7 s

/-- `$83` SAX ($nn,X) (R426, R176): 2 bytes, 6 cycles. -/
def execSaxIndx (b : Byte) (s : State) : Result := opSax (.indx b) 6 s

/-- `$87` SAX $nn (R426, R173): 2 bytes, 3 cycles. -/
def execSaxZp (b : Byte) (s : State) : Result := opSax (.zp b) 3 s

/-- `$8F` SAX $hhll (R426, R179): 3 bytes, 4 cycles. -/
def execSaxAbs (w : Word) (s : State) : Result := opSax (.abs w) 4 s

/-- `$97` SAX $nn,Y (R426, R175): 2 bytes, 4 cycles. -/
def execSaxZpy (b : Byte) (s : State) : Result := opSax (.zpy b) 4 s

/-- `$A3` LAX ($nn,X) (R427, R176): 2 bytes, 6 cycles. -/
def execLaxIndx (b : Byte) (s : State) : Result := opLax (.indx b) 6 s

/-- `$A7` LAX $nn (R427, R173): 2 bytes, 3 cycles. -/
def execLaxZp (b : Byte) (s : State) : Result := opLax (.zp b) 3 s

/-- `$AF` LAX $hhll (R427, R179): 3 bytes, 4 cycles. -/
def execLaxAbs (w : Word) (s : State) : Result := opLax (.abs w) 4 s

/-- `$B3` LAX ($nn),Y (R427, R177): 2 bytes, 5 cycles, one more when the index crosses a page (R185). -/
def execLaxIndy (b : Byte) (s : State) : Result := opLax (.indy b) 5 s

/-- `$B7` LAX $nn,Y (R427, R175): 2 bytes, 4 cycles. -/
def execLaxZpy (b : Byte) (s : State) : Result := opLax (.zpy b) 4 s

/-- `$BF` LAX $hhll,Y (R427, R181): 3 bytes, 4 cycles, one more when the index crosses a page (R185). -/
def execLaxAbsy (w : Word) (s : State) : Result := opLax (.absy w) 4 s

/-- `$C3` DCP ($nn,X) (R428, R176): 2 bytes, 8 cycles. -/
def execDcpIndx (b : Byte) (s : State) : Result := opDcp (.indx b) 8 s

/-- `$C7` DCP $nn (R428, R173): 2 bytes, 5 cycles. -/
def execDcpZp (b : Byte) (s : State) : Result := opDcp (.zp b) 5 s

/-- `$CF` DCP $hhll (R428, R179): 3 bytes, 6 cycles. -/
def execDcpAbs (w : Word) (s : State) : Result := opDcp (.abs w) 6 s

/-- `$D3` DCP ($nn),Y (R428, R177): 2 bytes, 8 cycles. -/
def execDcpIndy (b : Byte) (s : State) : Result := opDcp (.indy b) 8 s

/-- `$D7` DCP $nn,X (R428, R174): 2 bytes, 6 cycles. -/
def execDcpZpx (b : Byte) (s : State) : Result := opDcp (.zpx b) 6 s

/-- `$DB` DCP $hhll,Y (R428, R181): 3 bytes, 7 cycles. -/
def execDcpAbsy (w : Word) (s : State) : Result := opDcp (.absy w) 7 s

/-- `$DF` DCP $hhll,X (R428, R180): 3 bytes, 7 cycles. -/
def execDcpAbsx (w : Word) (s : State) : Result := opDcp (.absx w) 7 s

/-- `$E3` ISC ($nn,X) (R429, R176): 2 bytes, 8 cycles. -/
def execIscIndx (b : Byte) (s : State) : Result := opIsc (.indx b) 8 s

/-- `$E7` ISC $nn (R429, R173): 2 bytes, 5 cycles. -/
def execIscZp (b : Byte) (s : State) : Result := opIsc (.zp b) 5 s

/-- `$EF` ISC $hhll (R429, R179): 3 bytes, 6 cycles. -/
def execIscAbs (w : Word) (s : State) : Result := opIsc (.abs w) 6 s

/-- `$F3` ISC ($nn),Y (R429, R177): 2 bytes, 8 cycles. -/
def execIscIndy (b : Byte) (s : State) : Result := opIsc (.indy b) 8 s

/-- `$F7` ISC $nn,X (R429, R174): 2 bytes, 6 cycles. -/
def execIscZpx (b : Byte) (s : State) : Result := opIsc (.zpx b) 6 s

/-- `$FB` ISC $hhll,Y (R429, R181): 3 bytes, 7 cycles. -/
def execIscAbsy (w : Word) (s : State) : Result := opIsc (.absy w) 7 s

/-- `$FF` ISC $hhll,X (R429, R180): 3 bytes, 7 cycles. -/
def execIscAbsx (w : Word) (s : State) : Result := opIsc (.absx w) 7 s

/-- `$0B` ANC #$nn (R430, R172): 2 bytes, 2 cycles. -/
def execAncImm0B (b : Byte) (s : State) : Result := opAnc b 2 s

/-- `$2B` ANC #$nn (R430, R172): 2 bytes, 2 cycles. -/
def execAncImm2B (b : Byte) (s : State) : Result := opAnc b 2 s

/-- `$4B` ALR #$nn (R431, R172): 2 bytes, 2 cycles. -/
def execAlr (b : Byte) (s : State) : Result :=
  readClass (.imm b) 2 (fun m s => { s with a := (alrStep (s.a &&& m) s.p).1, p := (alrStep (s.a &&& m) s.p).2 }) s

/-- `$6B` ARR #$nn (R432, R172): 2 bytes, 2 cycles. -/
def execArr (b : Byte) (s : State) : Result :=
  readClass (.imm b) 2 (fun m s => { s with a := (arrStep (s.a &&& m) s.p).1, p := (arrStep (s.a &&& m) s.p).2 }) s

/-- `$CB` AXS #$nn (R433, R172): 2 bytes, 2 cycles. -/
def execAxs (b : Byte) (s : State) : Result :=
  readClass (.imm b) 2 (fun m s => { s with x := (axsStep (s.a &&& s.x) m s.p).1, p := (axsStep (s.a &&& s.x) m s.p).2 }) s

/-- `$EB` SBC #$nn (R434, R172): 2 bytes, 2 cycles. -/
def execSbcImmEB (b : Byte) (s : State) : Result := opSbc (.imm b) 2 s

/-- `$BB` LAS $hhll,Y (R435, R181): 3 bytes, 4 cycles, one more when the index crosses a page (R185). -/
def execLas (w : Word) (s : State) : Result :=
  readClass (.mem (.absy w)) 4 (fun m s => let v := m &&& s.sp; { s with a := v, x := v, sp := v, p := setNZ v s.p }) s

/-- `$02` JAM (R436, R226): the CPU halts at the opcode fetch (R500). -/
def execJam02 (s : State) : Result := halt s

/-- `$12` JAM (R436, R226): the CPU halts at the opcode fetch (R500). -/
def execJam12 (s : State) : Result := halt s

/-- `$22` JAM (R436, R226): the CPU halts at the opcode fetch (R500). -/
def execJam22 (s : State) : Result := halt s

/-- `$32` JAM (R436, R226): the CPU halts at the opcode fetch (R500). -/
def execJam32 (s : State) : Result := halt s

/-- `$42` JAM (R436, R226): the CPU halts at the opcode fetch (R500). -/
def execJam42 (s : State) : Result := halt s

/-- `$52` JAM (R436, R226): the CPU halts at the opcode fetch (R500). -/
def execJam52 (s : State) : Result := halt s

/-- `$62` JAM (R436, R226): the CPU halts at the opcode fetch (R500). -/
def execJam62 (s : State) : Result := halt s

/-- `$72` JAM (R436, R226): the CPU halts at the opcode fetch (R500). -/
def execJam72 (s : State) : Result := halt s

/-- `$92` JAM (R436, R226): the CPU halts at the opcode fetch (R500). -/
def execJam92 (s : State) : Result := halt s

/-- `$B2` JAM (R436, R226): the CPU halts at the opcode fetch (R500). -/
def execJamB2 (s : State) : Result := halt s

/-- `$D2` JAM (R436, R226): the CPU halts at the opcode fetch (R500). -/
def execJamD2 (s : State) : Result := halt s

/-- `$F2` JAM (R436, R226): the CPU halts at the opcode fetch (R500). -/
def execJamF2 (s : State) : Result := halt s

/-- `$8B` ANE (R437, R226): the CPU halts at the opcode fetch (R500). -/
def execAne (s : State) : Result := halt s

/-- `$AB` LXA (R438, R226): the CPU halts at the opcode fetch (R500). -/
def execLxa (s : State) : Result := halt s

/-- `$93` SHA (R439, R226): the CPU halts at the opcode fetch (R500). -/
def execShaIndy (s : State) : Result := halt s

/-- `$9F` SHA (R439, R226): the CPU halts at the opcode fetch (R500). -/
def execShaAbsy (s : State) : Result := halt s

/-- `$9B` SHS (R440, R226): the CPU halts at the opcode fetch (R500). -/
def execShs (s : State) : Result := halt s

/-- `$9C` SHY (R441, R226): the CPU halts at the opcode fetch (R500). -/
def execShy (s : State) : Result := halt s

/-- `$9E` SHX (R442, R226): the CPU halts at the opcode fetch (R500). -/
def execShx (s : State) : Result := halt s

end Sys2Proof.Machine
end

