-- ==== Sys2Proof/Machine/Dispatch.lean ====
section
/-! DEFINITION. exec: one arm per constructor of Instr, each one call of that instruction's own meaning. -/

namespace Sys2Proof.Machine

/-- `Execute` of 30_encoding.md R160 with the PC advance of R163: the meaning of an instruction whose opcode byte stands at
PC, after its bytes have been fetched. -/
def exec (i : Instr) (s : State) : Host.Outcome State Fault Refusal :=
  match i with
  | .brk => Sys2Proof.Machine.execBrk s
  | .oraIndx b => Sys2Proof.Machine.execOraIndx b s
  | .jam02 => Sys2Proof.Machine.execJam02 s
  | .sloIndx b => Sys2Proof.Machine.execSloIndx b s
  | .nopZp04 b => Sys2Proof.Machine.execNopZp04 b s
  | .oraZp b => Sys2Proof.Machine.execOraZp b s
  | .aslZp b => Sys2Proof.Machine.execAslZp b s
  | .sloZp b => Sys2Proof.Machine.execSloZp b s
  | .php => Sys2Proof.Machine.execPhp s
  | .oraImm b => Sys2Proof.Machine.execOraImm b s
  | .aslAcc => Sys2Proof.Machine.execAslAcc s
  | .ancImm0B b => Sys2Proof.Machine.execAncImm0B b s
  | .nopAbs0C w => Sys2Proof.Machine.execNopAbs0C w s
  | .oraAbs w => Sys2Proof.Machine.execOraAbs w s
  | .aslAbs w => Sys2Proof.Machine.execAslAbs w s
  | .sloAbs w => Sys2Proof.Machine.execSloAbs w s
  | .bpl b => Sys2Proof.Machine.execBpl b s
  | .oraIndy b => Sys2Proof.Machine.execOraIndy b s
  | .jam12 => Sys2Proof.Machine.execJam12 s
  | .sloIndy b => Sys2Proof.Machine.execSloIndy b s
  | .nopZpx14 b => Sys2Proof.Machine.execNopZpx14 b s
  | .oraZpx b => Sys2Proof.Machine.execOraZpx b s
  | .aslZpx b => Sys2Proof.Machine.execAslZpx b s
  | .sloZpx b => Sys2Proof.Machine.execSloZpx b s
  | .clc => Sys2Proof.Machine.execClc s
  | .oraAbsy w => Sys2Proof.Machine.execOraAbsy w s
  | .nopImp1A => Sys2Proof.Machine.execNopImp1A s
  | .sloAbsy w => Sys2Proof.Machine.execSloAbsy w s
  | .nopAbsx1C w => Sys2Proof.Machine.execNopAbsx1C w s
  | .oraAbsx w => Sys2Proof.Machine.execOraAbsx w s
  | .aslAbsx w => Sys2Proof.Machine.execAslAbsx w s
  | .sloAbsx w => Sys2Proof.Machine.execSloAbsx w s
  | .jsr w => Sys2Proof.Machine.execJsr w s
  | .andIndx b => Sys2Proof.Machine.execAndIndx b s
  | .jam22 => Sys2Proof.Machine.execJam22 s
  | .rlaIndx b => Sys2Proof.Machine.execRlaIndx b s
  | .bitZp b => Sys2Proof.Machine.execBitZp b s
  | .andZp b => Sys2Proof.Machine.execAndZp b s
  | .rolZp b => Sys2Proof.Machine.execRolZp b s
  | .rlaZp b => Sys2Proof.Machine.execRlaZp b s
  | .plp => Sys2Proof.Machine.execPlp s
  | .andImm b => Sys2Proof.Machine.execAndImm b s
  | .rolAcc => Sys2Proof.Machine.execRolAcc s
  | .ancImm2B b => Sys2Proof.Machine.execAncImm2B b s
  | .bitAbs w => Sys2Proof.Machine.execBitAbs w s
  | .andAbs w => Sys2Proof.Machine.execAndAbs w s
  | .rolAbs w => Sys2Proof.Machine.execRolAbs w s
  | .rlaAbs w => Sys2Proof.Machine.execRlaAbs w s
  | .bmi b => Sys2Proof.Machine.execBmi b s
  | .andIndy b => Sys2Proof.Machine.execAndIndy b s
  | .jam32 => Sys2Proof.Machine.execJam32 s
  | .rlaIndy b => Sys2Proof.Machine.execRlaIndy b s
  | .nopZpx34 b => Sys2Proof.Machine.execNopZpx34 b s
  | .andZpx b => Sys2Proof.Machine.execAndZpx b s
  | .rolZpx b => Sys2Proof.Machine.execRolZpx b s
  | .rlaZpx b => Sys2Proof.Machine.execRlaZpx b s
  | .sec => Sys2Proof.Machine.execSec s
  | .andAbsy w => Sys2Proof.Machine.execAndAbsy w s
  | .nopImp3A => Sys2Proof.Machine.execNopImp3A s
  | .rlaAbsy w => Sys2Proof.Machine.execRlaAbsy w s
  | .nopAbsx3C w => Sys2Proof.Machine.execNopAbsx3C w s
  | .andAbsx w => Sys2Proof.Machine.execAndAbsx w s
  | .rolAbsx w => Sys2Proof.Machine.execRolAbsx w s
  | .rlaAbsx w => Sys2Proof.Machine.execRlaAbsx w s
  | .rti => Sys2Proof.Machine.execRti s
  | .eorIndx b => Sys2Proof.Machine.execEorIndx b s
  | .jam42 => Sys2Proof.Machine.execJam42 s
  | .sreIndx b => Sys2Proof.Machine.execSreIndx b s
  | .nopZp44 b => Sys2Proof.Machine.execNopZp44 b s
  | .eorZp b => Sys2Proof.Machine.execEorZp b s
  | .lsrZp b => Sys2Proof.Machine.execLsrZp b s
  | .sreZp b => Sys2Proof.Machine.execSreZp b s
  | .pha => Sys2Proof.Machine.execPha s
  | .eorImm b => Sys2Proof.Machine.execEorImm b s
  | .lsrAcc => Sys2Proof.Machine.execLsrAcc s
  | .alr b => Sys2Proof.Machine.execAlr b s
  | .jmpAbs w => Sys2Proof.Machine.execJmpAbs w s
  | .eorAbs w => Sys2Proof.Machine.execEorAbs w s
  | .lsrAbs w => Sys2Proof.Machine.execLsrAbs w s
  | .sreAbs w => Sys2Proof.Machine.execSreAbs w s
  | .bvc b => Sys2Proof.Machine.execBvc b s
  | .eorIndy b => Sys2Proof.Machine.execEorIndy b s
  | .jam52 => Sys2Proof.Machine.execJam52 s
  | .sreIndy b => Sys2Proof.Machine.execSreIndy b s
  | .nopZpx54 b => Sys2Proof.Machine.execNopZpx54 b s
  | .eorZpx b => Sys2Proof.Machine.execEorZpx b s
  | .lsrZpx b => Sys2Proof.Machine.execLsrZpx b s
  | .sreZpx b => Sys2Proof.Machine.execSreZpx b s
  | .cli => Sys2Proof.Machine.execCli s
  | .eorAbsy w => Sys2Proof.Machine.execEorAbsy w s
  | .nopImp5A => Sys2Proof.Machine.execNopImp5A s
  | .sreAbsy w => Sys2Proof.Machine.execSreAbsy w s
  | .nopAbsx5C w => Sys2Proof.Machine.execNopAbsx5C w s
  | .eorAbsx w => Sys2Proof.Machine.execEorAbsx w s
  | .lsrAbsx w => Sys2Proof.Machine.execLsrAbsx w s
  | .sreAbsx w => Sys2Proof.Machine.execSreAbsx w s
  | .rts => Sys2Proof.Machine.execRts s
  | .adcIndx b => Sys2Proof.Machine.execAdcIndx b s
  | .jam62 => Sys2Proof.Machine.execJam62 s
  | .rraIndx b => Sys2Proof.Machine.execRraIndx b s
  | .nopZp64 b => Sys2Proof.Machine.execNopZp64 b s
  | .adcZp b => Sys2Proof.Machine.execAdcZp b s
  | .rorZp b => Sys2Proof.Machine.execRorZp b s
  | .rraZp b => Sys2Proof.Machine.execRraZp b s
  | .pla => Sys2Proof.Machine.execPla s
  | .adcImm b => Sys2Proof.Machine.execAdcImm b s
  | .rorAcc => Sys2Proof.Machine.execRorAcc s
  | .arr b => Sys2Proof.Machine.execArr b s
  | .jmpInd w => Sys2Proof.Machine.execJmpInd w s
  | .adcAbs w => Sys2Proof.Machine.execAdcAbs w s
  | .rorAbs w => Sys2Proof.Machine.execRorAbs w s
  | .rraAbs w => Sys2Proof.Machine.execRraAbs w s
  | .bvs b => Sys2Proof.Machine.execBvs b s
  | .adcIndy b => Sys2Proof.Machine.execAdcIndy b s
  | .jam72 => Sys2Proof.Machine.execJam72 s
  | .rraIndy b => Sys2Proof.Machine.execRraIndy b s
  | .nopZpx74 b => Sys2Proof.Machine.execNopZpx74 b s
  | .adcZpx b => Sys2Proof.Machine.execAdcZpx b s
  | .rorZpx b => Sys2Proof.Machine.execRorZpx b s
  | .rraZpx b => Sys2Proof.Machine.execRraZpx b s
  | .sei => Sys2Proof.Machine.execSei s
  | .adcAbsy w => Sys2Proof.Machine.execAdcAbsy w s
  | .nopImp7A => Sys2Proof.Machine.execNopImp7A s
  | .rraAbsy w => Sys2Proof.Machine.execRraAbsy w s
  | .nopAbsx7C w => Sys2Proof.Machine.execNopAbsx7C w s
  | .adcAbsx w => Sys2Proof.Machine.execAdcAbsx w s
  | .rorAbsx w => Sys2Proof.Machine.execRorAbsx w s
  | .rraAbsx w => Sys2Proof.Machine.execRraAbsx w s
  | .nopImm80 b => Sys2Proof.Machine.execNopImm80 b s
  | .staIndx b => Sys2Proof.Machine.execStaIndx b s
  | .nopImm82 b => Sys2Proof.Machine.execNopImm82 b s
  | .saxIndx b => Sys2Proof.Machine.execSaxIndx b s
  | .styZp b => Sys2Proof.Machine.execStyZp b s
  | .staZp b => Sys2Proof.Machine.execStaZp b s
  | .stxZp b => Sys2Proof.Machine.execStxZp b s
  | .saxZp b => Sys2Proof.Machine.execSaxZp b s
  | .dey => Sys2Proof.Machine.execDey s
  | .nopImm89 b => Sys2Proof.Machine.execNopImm89 b s
  | .txa => Sys2Proof.Machine.execTxa s
  | .ane => Sys2Proof.Machine.execAne s
  | .styAbs w => Sys2Proof.Machine.execStyAbs w s
  | .staAbs w => Sys2Proof.Machine.execStaAbs w s
  | .stxAbs w => Sys2Proof.Machine.execStxAbs w s
  | .saxAbs w => Sys2Proof.Machine.execSaxAbs w s
  | .bcc b => Sys2Proof.Machine.execBcc b s
  | .staIndy b => Sys2Proof.Machine.execStaIndy b s
  | .jam92 => Sys2Proof.Machine.execJam92 s
  | .shaIndy => Sys2Proof.Machine.execShaIndy s
  | .styZpx b => Sys2Proof.Machine.execStyZpx b s
  | .staZpx b => Sys2Proof.Machine.execStaZpx b s
  | .stxZpy b => Sys2Proof.Machine.execStxZpy b s
  | .saxZpy b => Sys2Proof.Machine.execSaxZpy b s
  | .tya => Sys2Proof.Machine.execTya s
  | .staAbsy w => Sys2Proof.Machine.execStaAbsy w s
  | .txs => Sys2Proof.Machine.execTxs s
  | .shs => Sys2Proof.Machine.execShs s
  | .shy => Sys2Proof.Machine.execShy s
  | .staAbsx w => Sys2Proof.Machine.execStaAbsx w s
  | .shx => Sys2Proof.Machine.execShx s
  | .shaAbsy => Sys2Proof.Machine.execShaAbsy s
  | .ldyImm b => Sys2Proof.Machine.execLdyImm b s
  | .ldaIndx b => Sys2Proof.Machine.execLdaIndx b s
  | .ldxImm b => Sys2Proof.Machine.execLdxImm b s
  | .laxIndx b => Sys2Proof.Machine.execLaxIndx b s
  | .ldyZp b => Sys2Proof.Machine.execLdyZp b s
  | .ldaZp b => Sys2Proof.Machine.execLdaZp b s
  | .ldxZp b => Sys2Proof.Machine.execLdxZp b s
  | .laxZp b => Sys2Proof.Machine.execLaxZp b s
  | .tay => Sys2Proof.Machine.execTay s
  | .ldaImm b => Sys2Proof.Machine.execLdaImm b s
  | .tax => Sys2Proof.Machine.execTax s
  | .lxa => Sys2Proof.Machine.execLxa s
  | .ldyAbs w => Sys2Proof.Machine.execLdyAbs w s
  | .ldaAbs w => Sys2Proof.Machine.execLdaAbs w s
  | .ldxAbs w => Sys2Proof.Machine.execLdxAbs w s
  | .laxAbs w => Sys2Proof.Machine.execLaxAbs w s
  | .bcs b => Sys2Proof.Machine.execBcs b s
  | .ldaIndy b => Sys2Proof.Machine.execLdaIndy b s
  | .jamB2 => Sys2Proof.Machine.execJamB2 s
  | .laxIndy b => Sys2Proof.Machine.execLaxIndy b s
  | .ldyZpx b => Sys2Proof.Machine.execLdyZpx b s
  | .ldaZpx b => Sys2Proof.Machine.execLdaZpx b s
  | .ldxZpy b => Sys2Proof.Machine.execLdxZpy b s
  | .laxZpy b => Sys2Proof.Machine.execLaxZpy b s
  | .clv => Sys2Proof.Machine.execClv s
  | .ldaAbsy w => Sys2Proof.Machine.execLdaAbsy w s
  | .tsx => Sys2Proof.Machine.execTsx s
  | .las w => Sys2Proof.Machine.execLas w s
  | .ldyAbsx w => Sys2Proof.Machine.execLdyAbsx w s
  | .ldaAbsx w => Sys2Proof.Machine.execLdaAbsx w s
  | .ldxAbsy w => Sys2Proof.Machine.execLdxAbsy w s
  | .laxAbsy w => Sys2Proof.Machine.execLaxAbsy w s
  | .cpyImm b => Sys2Proof.Machine.execCpyImm b s
  | .cmpIndx b => Sys2Proof.Machine.execCmpIndx b s
  | .nopImmC2 b => Sys2Proof.Machine.execNopImmC2 b s
  | .dcpIndx b => Sys2Proof.Machine.execDcpIndx b s
  | .cpyZp b => Sys2Proof.Machine.execCpyZp b s
  | .cmpZp b => Sys2Proof.Machine.execCmpZp b s
  | .decZp b => Sys2Proof.Machine.execDecZp b s
  | .dcpZp b => Sys2Proof.Machine.execDcpZp b s
  | .iny => Sys2Proof.Machine.execIny s
  | .cmpImm b => Sys2Proof.Machine.execCmpImm b s
  | .dex => Sys2Proof.Machine.execDex s
  | .axs b => Sys2Proof.Machine.execAxs b s
  | .cpyAbs w => Sys2Proof.Machine.execCpyAbs w s
  | .cmpAbs w => Sys2Proof.Machine.execCmpAbs w s
  | .decAbs w => Sys2Proof.Machine.execDecAbs w s
  | .dcpAbs w => Sys2Proof.Machine.execDcpAbs w s
  | .bne b => Sys2Proof.Machine.execBne b s
  | .cmpIndy b => Sys2Proof.Machine.execCmpIndy b s
  | .jamD2 => Sys2Proof.Machine.execJamD2 s
  | .dcpIndy b => Sys2Proof.Machine.execDcpIndy b s
  | .nopZpxD4 b => Sys2Proof.Machine.execNopZpxD4 b s
  | .cmpZpx b => Sys2Proof.Machine.execCmpZpx b s
  | .decZpx b => Sys2Proof.Machine.execDecZpx b s
  | .dcpZpx b => Sys2Proof.Machine.execDcpZpx b s
  | .cld => Sys2Proof.Machine.execCld s
  | .cmpAbsy w => Sys2Proof.Machine.execCmpAbsy w s
  | .nopImpDA => Sys2Proof.Machine.execNopImpDA s
  | .dcpAbsy w => Sys2Proof.Machine.execDcpAbsy w s
  | .nopAbsxDC w => Sys2Proof.Machine.execNopAbsxDC w s
  | .cmpAbsx w => Sys2Proof.Machine.execCmpAbsx w s
  | .decAbsx w => Sys2Proof.Machine.execDecAbsx w s
  | .dcpAbsx w => Sys2Proof.Machine.execDcpAbsx w s
  | .cpxImm b => Sys2Proof.Machine.execCpxImm b s
  | .sbcIndx b => Sys2Proof.Machine.execSbcIndx b s
  | .nopImmE2 b => Sys2Proof.Machine.execNopImmE2 b s
  | .iscIndx b => Sys2Proof.Machine.execIscIndx b s
  | .cpxZp b => Sys2Proof.Machine.execCpxZp b s
  | .sbcZp b => Sys2Proof.Machine.execSbcZp b s
  | .incZp b => Sys2Proof.Machine.execIncZp b s
  | .iscZp b => Sys2Proof.Machine.execIscZp b s
  | .inx => Sys2Proof.Machine.execInx s
  | .sbcImm b => Sys2Proof.Machine.execSbcImm b s
  | .nop => Sys2Proof.Machine.execNop s
  | .sbcImmEB b => Sys2Proof.Machine.execSbcImmEB b s
  | .cpxAbs w => Sys2Proof.Machine.execCpxAbs w s
  | .sbcAbs w => Sys2Proof.Machine.execSbcAbs w s
  | .incAbs w => Sys2Proof.Machine.execIncAbs w s
  | .iscAbs w => Sys2Proof.Machine.execIscAbs w s
  | .beq b => Sys2Proof.Machine.execBeq b s
  | .sbcIndy b => Sys2Proof.Machine.execSbcIndy b s
  | .jamF2 => Sys2Proof.Machine.execJamF2 s
  | .iscIndy b => Sys2Proof.Machine.execIscIndy b s
  | .nopZpxF4 b => Sys2Proof.Machine.execNopZpxF4 b s
  | .sbcZpx b => Sys2Proof.Machine.execSbcZpx b s
  | .incZpx b => Sys2Proof.Machine.execIncZpx b s
  | .iscZpx b => Sys2Proof.Machine.execIscZpx b s
  | .sed => Sys2Proof.Machine.execSed s
  | .sbcAbsy w => Sys2Proof.Machine.execSbcAbsy w s
  | .nopImpFA => Sys2Proof.Machine.execNopImpFA s
  | .iscAbsy w => Sys2Proof.Machine.execIscAbsy w s
  | .nopAbsxFC w => Sys2Proof.Machine.execNopAbsxFC w s
  | .sbcAbsx w => Sys2Proof.Machine.execSbcAbsx w s
  | .incAbsx w => Sys2Proof.Machine.execIncAbsx w s
  | .iscAbsx w => Sys2Proof.Machine.execIscAbsx w s

end Sys2Proof.Machine
end

