-- ==== Sys2Proof/Machine/Fetch.lean ====
section
/-! DEFINITION. Fetching an instruction (30_encoding.md R160, R226), and placing one where the next step fetches it. -/

namespace Sys2Proof.Machine

/-- Fetch and decode the instruction at PC (R160): the opcode byte, then as many operand bytes as its length asks for, each
one read through the memory interface at increasing addresses mod 2^16. A halting opcode's operand bytes are not fetched
(R226). PC is not moved: the instruction's meaning does that (R163). -/
def fetch (s : State) : Instr × State :=
  let op := memRead s.pc s
  let n := fetchLength op.1
  let b1 := if 2 ≤ n then memRead (s.pc + 1) op.2 else (0, op.2)
  let b2 := if n = 3 then memRead (s.pc + 2) b1.2 else (0, b1.2)
  (decodeOp op.1 b1.1 b2.1, b2.2)

/-- Where `placeInstr` puts an instruction: the start address of the spec's own vectors (95_test_vectors.md, conventions). -/
def placeAddr : Word := 0x0200

/-- The state in which the very next step runs the instruction whose bytes are given: the bytes in RAM at `placeAddr`, PC
there, the CPU running and not halted, and no interrupt pending, so that the poll enters none (R160, R611;
notes/assumptions/9.md). It stands for the load of a program from outside and the host's `beginExecution()`. -/
def placeInstr (bytes : List Byte) (s : State) : State :=
  { s with
    pc := placeAddr
    nmiPending := false
    irqPending := false
    halted := false
    running := true
    ram := Memory.load (ramIndex placeAddr) bytes s.ram }

end Sys2Proof.Machine
end

