-- ==== Sys2Proof/Machine/Step.lean ====
section
/-! DEFINITION. One step of the CPU (30_encoding.md R160): the poll, at most one interrupt entry, exactly one instruction. -/

namespace Sys2Proof.Machine

/-- `stepOneInstruction()` (R160): no step unless the CPU is running and not halted (10_state.md R62); else the poll
(60_exceptions.md R510), then the fetch and the instruction, whose count gets the entry's cycles (R620). -/
def step (s : State) : Host.Outcome State Fault Refusal :=
  if isRunning s then
    let e := poll s
    let f := fetch e.2
    addEntry e.1 (exec f.1 f.2)
  else .fault .noStep

/-- The state in which the next step fetches and runs exactly the instruction whose bits are w, numbered as
spec/opcode_table.json numbers them. -/
def State.withFetchWord (s : State) (nbits w : Nat) : State := placeInstr (tableBytes nbits w) s

end Sys2Proof.Machine
end

