-- ==== Sys2Proof/Machine/Apu.lean ====
section
/-! DEFINITION. The APU as the source describes it (60_exceptions.md R555, R556): five independent generators, each advanced by
its own clock divider, and a mixer that makes one PCM sample of their contributions. Formulas and periods are Config's. -/

namespace Sys2Proof.Machine

/-- One APU clock of a generator (R555: "each advanced by its own clock divider"): its divider counts down; at 0 the generator
makes its `step() -> sampleContribution` and the divider starts again. It sees no record but its own. -/
def clockGenerator (g : Generator) (c : ApuChannel) : ApuChannel :=
  match c.divider with
  | k + 1 => { c with divider := k }
  | 0 =>
    let r := Config.generatorStep g c
    { r.1 with divider := Config.dividerPeriod g r.1, contribution := r.2 }

/-- One APU clock of the five generators (R555). -/
def clockChannels (cs : ApuChannels) : ApuChannels where
  pulse1 := clockGenerator .pulse1 cs.pulse1
  pulse2 := clockGenerator .pulse2 cs.pulse2
  triangle := clockGenerator .triangle cs.triangle
  noise := clockGenerator .noise cs.noise
  dmc := clockGenerator .dmc cs.dmc

/-- "the mixer sums contributions [...] into a single PCM sample" (R555). -/
def mixSample (cs : ApuChannels) : Int :=
  Config.mix cs.pulse1.contribution cs.pulse2.contribution cs.triangle.contribution cs.noise.contribution
    cs.dmc.contribution

/-- One APU clock (R555): the generators, and then, when one is due, a sample of the mixer, "appended to an output buffer". -/
def clockApu (u : Apu) : Apu :=
  let cs := clockChannels u.channels
  { u with
    channels := cs
    clock := u.clock + 1
    output := if Config.sampleDue u.clock then u.output ++ [mixSample cs] else u.output }

/-- A number of APU clocks in a row. -/
def clockApuTimes : Nat → Apu → Apu
  | 0, u => u
  | k + 1, u => clockApuTimes k (clockApu u)

/-- The APU over a number of APU clocks (R555, R570): a stopped APU stays as it is. -/
def advanceApu (clocks : Nat) (d : Devices) : Devices :=
  if d.apu.running then { d with apu := clockApuTimes clocks d.apu } else d

/-- The APU's `reset(session)` (R555): channel state and output buffer reinitialised; the channel values are free (R603). That the
output buffer is then empty, and that the APU stays started or stopped, are the model's choices (notes/assumptions/12.md). -/
def apuReset (d : Devices) : Devices := { d with apu := { d.apu with channels := Config.apuReset d, output := [] } }

/-- The APU's `start()` and `stop()` (R555). -/
def setApuRunning (on : Bool) (s : State) : State :=
  { s with dev := { s.dev with apu := { s.dev.apu with running := on } } }

/-- The APU's `writeBuffer()`, which R555 only names. That it hands over all the samples appended so far at once, and that they leave
the buffer, is the model's choice (notes/assumptions/19.md). -/
def writeBuffer (s : State) : List Int × State :=
  (s.dev.apu.output, { s with dev := { s.dev with apu := { s.dev.apu with output := [] } } })

end Sys2Proof.Machine
end

