-- ==== Sys2Proof/Machine/Cartridge.lean ====
section
/-! DEFINITION. The cartridge image parser (60_exceptions.md R566 to R569): the iNES header, validity, mapper ID. -/

namespace Sys2Proof.Machine

/-- The four magic bytes (R566). -/
def romMagic : List Byte := [0x4E, 0x45, 0x53, 0x1A]

/-- The header's length (R566). -/
def headerLength : Nat := 16

/-- One PRG bank (R566). -/
def prgBankSize : Nat := 16384

/-- One CHR bank (R566). -/
def chrBankSize : Nat := 8192

/-- The optional trainer block (R566). -/
def trainerSize : Nat := 512

/-- `mapper = (flags7 & $F0) | (flags6 >> 4)` (R568). -/
def mapperIdOf (flags6 flags7 : Byte) : Nat := ((flags7 &&& 0xF0) ||| (flags6 >>> 4)).toNat

/-- The mirroring mode of flags 6 (R566): bit 3 four-screen, else bit 0 (0 horizontal, 1 vertical). DEDUCED: that bit 3
outranks bit 0 (notes/assumptions/26.md). -/
def mirroringOf (flags6 : Byte) : Mirroring :=
  if flags6.getLsbD 3 then .fourScreen else if flags6.getLsbD 0 then .vertical else .horizontal

/-- The length a file needs (R567): header, trainer if present, PRG banks, CHR banks. -/
def requiredLength (trainer : Bool) (prgBanks chrBanks : Nat) : Nat :=
  headerLength + trainerSize * trainer.toNat + prgBankSize * prgBanks + chrBankSize * chrBanks

/-- The parameter `MapperSet` (R560, D23): it contains 0; what else is free. -/
def inMapperSet (id : Nat) : Bool := id == 0 || Config.otherMapper id

/-- `ROM.load` (R566 to R569): the parsed cartridge, or why the image is invalid. Excess bytes are ignored (D15). The order of
the tests is the model's (notes/assumptions/25.md). -/
def parseRom (file : List Byte) : Except Fault Cartridge :=
  if file.take 4 ≠ romMagic then .error .romBadMagic
  else if file.length < headerLength then .error .romTruncated
  else
    let prgBanks := (file.getD 4 0).toNat
    let chrBanks := (file.getD 5 0).toNat
    let flags6 := file.getD 6 0
    let flags7 := file.getD 7 0
    let trainer := flags6.getLsbD 2
    let prgStart := headerLength + trainerSize * trainer.toNat
    let chrStart := prgStart + prgBankSize * prgBanks
    if prgBanks = 0 then .error .romNoPrgBanks
    else if file.length < requiredLength trainer prgBanks chrBanks then .error .romTruncated
    else if !inMapperSet (mapperIdOf flags6 flags7) then .error .romUnknownMapper
    else
      .ok
        { prgBanks := prgBanks
          chrBanks := chrBanks
          prg := (file.drop prgStart).take (prgBankSize * prgBanks)
          chr := (file.drop chrStart).take (chrBankSize * chrBanks)
          mirroring := mirroringOf flags6
          mapperId := mapperIdOf flags6 flags7
          trainer := trainer
          battery := flags6.getLsbD 1 }

/-- `isValid()` after `load` (R567, R569). -/
def romIsValid (file : List Byte) : Bool :=
  match parseRom file with
  | .ok _ => true
  | .error _ => false

/-- The mapper's state after its `reset()`. Mapper 0: the first window shows bank 0, the second bank 1 or, with one bank,
bank 0 again, and the CHR window bank 0 (R562); no registers, no counter (I16). Another mapper: free (R603). -/
def mapperReset (c : Cartridge) : MapperState :=
  if c.mapperId = 0 then ⟨[0, 1 % c.prgBanks], [0], [], none, none⟩ else Config.mapperReset c

end Sys2Proof.Machine
end

