-- ==== Sys2Proof/Machine/Frame.lean ====
section
/-! DEFINITION. The PPU's way through a frame (60_exceptions.md R550, R554; 70_reset_and_hazards.md R623): how many dots and lines a
frame has and how the dot counter moves. The source gives the frame's length on NTSC and the 240 visible lines; every other
count is free within that length (notes/assumptions/13.md). -/

namespace Sys2Proof.Machine

/-- One NTSC frame in CPU cycles (R554, R623). -/
def ntscFrameCycles : Nat := 29780

/-- The fewest lines of a frame: one of PreRender, the 240 visible ones, one of PostRender, one of VerticalBlank (R550). -/
def fewestLines : Nat := 243

/-- The dots of a frame. NTSC: 3 for each of its 29,780 cycles (R554, R570, R623). PAL: any number that gives each line a dot. -/
def frameDots (r : Region) : Nat :=
  match r with
  | .ntsc => 3 * ntscFrameCycles
  | .pal => fewestLines + Config.palFrameDots

/-- The last line of PreRender. -/
def lastPreRenderLine (r : Region) : Nat := min (Config.preRenderLines r) (frameDots r - fewestLines)

/-- The last line of PostRender. -/
def lastPostRenderLine (r : Region) : Nat :=
  min (Config.postRenderLines r) (frameDots r - fewestLines - lastPreRenderLine r)

/-- The last line of VerticalBlank. -/
def lastVerticalBlankLine (r : Region) : Nat :=
  min (Config.verticalBlankLines r) (frameDots r - fewestLines - lastPreRenderLine r - lastPostRenderLine r)

/-- The lines of a frame. -/
def frameLines (r : Region) : Nat := fewestLines + lastPreRenderLine r + lastPostRenderLine r + lastVerticalBlankLine r

/-- `spare` dots dealt out to `n + 1` lines: each but the last takes what `free` says, as far as there are any left, and the last
takes the rest. Every way of dealing them out is one that some `free` gives. -/
def shareDots (free : Nat → Nat) : Nat → Nat → List Nat
  | 0, spare => [spare]
  | n + 1, spare => min (free n) spare :: shareDots free n (spare - min (free n) spare)

/-- The last dot of each line of a frame, in order: with one dot more for each line they make up the frame's dots. -/
def lastDots (r : Region) : List Nat :=
  shareDots (Config.lineDots r) (frameLines r - 1) (frameDots r - frameLines r)

/-- The place in the frame of the line in `t`, counted from PreRender's first. -/
def lineInFrame (r : Region) (t : PpuTiming) : Nat :=
  match t.phase with
  | .preRender => t.scanline
  | .visible line => lastPreRenderLine r + 1 + line.val
  | .postRender => lastPreRenderLine r + 241 + t.scanline
  | .verticalBlank => lastPreRenderLine r + 242 + lastPostRenderLine r + t.scanline

/-- The last dot of the line in `t`. -/
def lastDot (r : Region) (t : PpuTiming) : Nat := (lastDots r).getD (lineInFrame r t) 0

/-- The place `t` is one of the frame: a line its phase has, and a dot the line has. A visible line is its own scanline. -/
def inFrame (r : Region) (t : PpuTiming) : Bool :=
  decide (t.dot ≤ lastDot r t) &&
    match t.phase with
    | .preRender => decide (t.scanline ≤ lastPreRenderLine r)
    | .visible line => decide (t.scanline = line.val)
    | .postRender => decide (t.scanline ≤ lastPostRenderLine r)
    | .verticalBlank => decide (t.scanline ≤ lastVerticalBlankLine r)

/-- The first dot of a frame (R550). -/
def frameStart : PpuTiming := ⟨.preRender, 0, 0⟩

/-- The phase and scanline counter after the line in `t` ends (R550): PreRender, the visible scanlines 0 to 239, PostRender,
VerticalBlank, and PreRender again; the dot counter starts again. R550 numbers the visible scanlines alone: that the scanline counter
starts again at 0 in each other phase is the model's choice (notes/assumptions/13.md). -/
def nextLine (r : Region) (t : PpuTiming) : PpuTiming :=
  match t.phase with
  | .preRender =>
    if t.scanline < lastPreRenderLine r then ⟨.preRender, t.scanline + 1, 0⟩ else ⟨.visible 0, 0, 0⟩
  | .visible line =>
    if h : line.val + 1 < 240 then ⟨.visible ⟨line.val + 1, h⟩, line.val + 1, 0⟩ else ⟨.postRender, 0, 0⟩
  | .postRender =>
    if t.scanline < lastPostRenderLine r then ⟨.postRender, t.scanline + 1, 0⟩ else ⟨.verticalBlank, 0, 0⟩
  | .verticalBlank =>
    if t.scanline < lastVerticalBlankLine r then ⟨.verticalBlank, t.scanline + 1, 0⟩ else frameStart

/-- The dot in `t` is not its line's last. -/
def withinLine (r : Region) (t : PpuTiming) : Bool := decide (t.dot < lastDot r t)

/-- The place after one dot (R550: "Transition is driven purely by an internal dot counter"). -/
def nextDot (r : Region) (t : PpuTiming) : PpuTiming := if withinLine r t then { t with dot := t.dot + 1 } else nextLine r t

/-- The line just begun is VerticalBlank's first (R551). -/
def entersVBlank (before after : PpuTiming) : Bool := before.phase == .postRender && after.phase == .verticalBlank

/-- The last visible line has just ended, so the frame is complete (R553, R554; notes/assumptions/14.md). -/
def completesFrame (before after : PpuTiming) : Bool := before.phase == .visible 239 && after.phase == .postRender

end Sys2Proof.Machine
end

