-- ==== Sys2Proof/Machine/Ppu.lean ====
section
/-! DEFINITION. The PPU as the scanline state machine the source describes (60_exceptions.md R550 to R554), advanced dot by
dot between CPU steps, and the mapper's scanline events (R564). The way through a frame is Machine/Frame.lean. -/

namespace Sys2Proof.Machine

/-- What advancing the PPU asks of the CPU (R551, R564): `requestNMI()`, `requestIRQ()`. -/
structure Signals where
  nmi : Bool
  irq : Bool
  deriving DecidableEq, Repr

/-- At most 8 sprites a line (R552). -/
def spriteLimit : Nat := 8

/-- Rendering a visible line (R552): of the sprites covering it the first 8 are kept, a ninth sets the overflow flag, the
sprite-0 hit flag may be set, and one row of 256 pixels is written. Made when the line ends (notes/assumptions/14.md). -/
def renderLine (d : Devices) (line : Fin 240) : Devices :=
  let covering := Config.spritesOnLine d line.val
  let kept := covering.take spriteLimit
  let row := Vector.ofFn fun column : Fin 256 => Config.pixel d kept line.val column.val
  { d with
    ppu :=
      { d.ppu with
        lineSprites := kept
        pixels := d.ppu.pixels.set line.val row line.isLt
        latches :=
          { d.ppu.latches with
            spriteOverflow := d.ppu.latches.spriteOverflow || decide (spriteLimit < covering.length)
            spriteZeroHit := d.ppu.latches.spriteZeroHit || Config.spriteZeroHit d line.val } } }

/-- The end of a line's rendering: a visible line is rendered, any other is not. -/
def endOfLine (d : Devices) : Devices :=
  match d.ppu.timing.phase with
  | .visible line => renderLine d line
  | _ => d

/-- The mapper's scanline event (R561, R564): mapper 0 has none. -/
def scanlineEvent (d : Devices) : Devices × Bool :=
  match d.cart with
  | some c => if c.mapperId = 0 then (d, false) else
    let r := Config.onScanline d
    (applyMapper d r.1, r.2)
  | none => (d, false)

/-- `stepDot()` (R550, R551, R553): the dot counter advances; at the end of a line the line is rendered, the next line begins and
the mapper gets its scanline event. On VerticalBlank's first line the status flag is set and, if enabled, the CPU is signalled to
service an NMI. -/
def stepDot (r : Region) (d : Devices) : Devices × Signals :=
  let t := d.ppu.timing
  let t' := nextDot r t
  if withinLine r t then ({ d with ppu := { d.ppu with timing := t' } }, ⟨false, false⟩)
  else
    let d1 := endOfLine d
    let vblank := entersVBlank t t'
    let d2 :=
      { d1 with
        ppu :=
          { d1.ppu with
            timing := t'
            latches := { d1.ppu.latches with vblankFlag := d1.ppu.latches.vblankFlag || vblank }
            frames := d1.ppu.frames + (completesFrame t t').toNat } }
    let e := scanlineEvent d2
    (e.1, ⟨vblank && d1.ppu.latches.nmiEnable, e.2⟩)

/-- A number of dots in a row (R553 "or a batched step"), each signal reaching the CPU as its request call (R513, R514). -/
def advanceDots : Nat → State → State
  | 0, s => s
  | k + 1, s =>
    let r := stepDot s.session.region s.dev
    advanceDots k
      { s with dev := r.1, nmiPending := s.nmiPending || r.2.nmi, irqPending := s.irqPending || r.2.irq }

/-- The PPU's `reset()` (R601 to R603): VRAM and OAM take any content, the mirroring mode is the loaded ROM's again (20_memory.md
R128), also where `setMirroring` or the mapper had changed it, and everything else takes a free value within the frame and the 8
sprites of R552; the model's own count of frames starts again. All but R602's part is the model's reading of "reinitializes all
sub-component state" (notes/assumptions/12.md). -/
def ppuReset (r : Region) (init : MemInit) (d : Devices) : Devices :=
  let timing := Config.ppuResetTiming d
  { d with
    vram := Memory.ofBytes 0x8000 init.vram
    oam := Memory.ofBytes 0x100 init.oam
    ppu :=
      { timing := if inFrame r timing then timing else frameStart
        latches := Config.ppuResetLatches d
        mirroring := (d.cart.map Cartridge.mirroring).getD d.ppu.mirroring
        lineSprites := (Config.ppuResetSprites d).take spriteLimit
        pixels := Config.ppuResetPixels d
        frames := 0 } }

end Sys2Proof.Machine
end

