-- ==== Sys2Proof/Machine/Save.lean ====
section
/-! DEFINITION. Save states (60_exceptions.md R571 to R574, 10_state.md R67): the buffer `stateSave` writes, its blocks in their fixed
order, and the loads that read them back or change nothing. -/

namespace Sys2Proof.Machine

/-- One item of a save buffer. The bytes of the mapper and PPU blocks are not in the source, so each of these blocks is one item
(notes/assumptions/23.md). That the mapper block holds the two bank tables, beside the registers and the IRQ counter and latch that
R565 has `serialize` persist, is the model's choice (notes/assumptions/23.md). -/
inductive SaveItem where
  | byte (b : Byte)
  | mapper (m : MapperState)
  | ppu (p : Ppu)
  deriving DecidableEq, Repr

/-- A save buffer (R571), with `origin`, the ROM it was captured under, which the format does not carry (R574;
notes/assumptions/23.md). -/
structure SaveState where
  items : List SaveItem
  origin : Option Cartridge
  deriving DecidableEq, Repr

/-- The current version byte (R571). -/
def saveVersion : Byte := 1

/-- The bytes of a save (R571): the version byte, CPU RAM, PPU VRAM, sprite RAM, CPU registers. A memory's block is all its bytes;
for VRAM these are the 32 KiB of its logical space (notes/assumptions/23.md). -/
def saveBytes (s : State) : List Byte :=
  saveVersion :: (Memory.toBytes 0x800 s.ram ++ Memory.toBytes 0x8000 s.dev.vram ++ Memory.toBytes 0x100 s.dev.oam ++
    cpuSerialize s)

/-- `stateSave(buffer)` (R571): the bytes, then the mapper's register state and the PPU's state. The pause and the resume around it
leave the machine as it was. It asks for no phase: that it answers for a destroyed session too, whose emptied memories it dumps as
zeros, is the model's choice (20_memory.md R113, notes/assumptions/41.md). -/
def stateSave (s : State) : SaveState where
  items := (saveBytes s).map .byte ++ [.mapper s.dev.mapper, .ppu s.dev.ppu]
  origin := s.dev.cart

/-- The next `n` bytes of a buffer, and what follows them; a buffer that ends before is truncated (I11). -/
def takeBytes : Nat → List SaveItem → Except Fault (List Byte × List SaveItem)
  | 0, rest => .ok ([], rest)
  | _ + 1, [] => .error .saveTruncated
  | n + 1, .byte b :: rest =>
    match takeBytes n rest with
    | .ok r => .ok (b :: r.1, r.2)
    | .error f => .error f
  | _ + 1, .mapper _ :: _ => .error .saveMalformed
  | _ + 1, .ppu _ :: _ => .error .saveMalformed

/-- The mapper block, and what follows it. -/
def takeMapper : List SaveItem → Except Fault (MapperState × List SaveItem)
  | .mapper m :: rest => .ok (m, rest)
  | [] => .error .saveTruncated
  | .byte _ :: _ => .error .saveMalformed
  | .ppu _ :: _ => .error .saveMalformed

/-- A PPU a session of this region can have: at a place of the frame, with at most 8 sprites kept (R550, R552). -/
def goodPpu (r : Region) (p : Ppu) : Bool := inFrame r p.timing && decide (p.lineSprites.length ≤ spriteLimit)

/-- The PPU block. What follows it is not read. -/
def takePpu (r : Region) : List SaveItem → Except Fault Ppu
  | .ppu p :: _ => if goodPpu r p then .ok p else .error .saveMalformed
  | [] => .error .saveTruncated
  | .byte _ :: _ => .error .saveMalformed
  | .mapper _ :: _ => .error .saveMalformed

/-- The blocks of a save state. -/
structure SavedBlocks where
  ram : List Byte
  vram : List Byte
  oam : List Byte
  cpu : List Byte
  mapper : MapperState
  ppu : Ppu
  deriving DecidableEq, Repr

/-- The blocks after the version byte, in their fixed order (R571). -/
def takeBlocks (r : Region) (items : List SaveItem) : Except Fault SavedBlocks := do
  let ram ← takeBytes 0x800 items
  let vram ← takeBytes 0x8000 ram.2
  let oam ← takeBytes 0x100 vram.2
  let cpu ← takeBytes 8 oam.2
  let mapper ← takeMapper cpu.2
  let ppu ← takePpu r mapper.2
  return ⟨ram.1, vram.1, oam.1, cpu.1, mapper.1, ppu⟩

/-- The run loop is paused, as R572 and R573 require of a state load: the CPU does not run, whatever the phase, in a session that is
not destroyed. What "paused" means beyond that is the model's choice (notes/assumptions/24.md). -/
def runLoopPaused (s : State) : Bool := !s.running && s.session.phase != .destroyed

/-- Every block of a save replaced (R571). The APU is not in the save state (90_conflicts.md C2). The model's choices: the session's sum
of cycles goes on (notes/assumptions/8.md), and the model's own count of completed frames, as part of the PPU block, is the saved
one again (notes/assumptions/23.md). -/
def replaceBlocks (k : SavedBlocks) (s : State) : State :=
  { s with
    ram := Memory.ofBytes 0x800 k.ram
    dev :=
      { recordEvent s.dev .restored with
        vram := Memory.ofBytes 0x8000 k.vram
        oam := Memory.ofBytes 0x100 k.oam
        mapper := k.mapper
        ppu := k.ppu } }

/-- `stateLoad(buffer)` (R571, R574, I10, I11): the version byte is checked, then every block is replaced; a bad version, a
truncated buffer or a state of another ROM changes nothing. When several hold, the one named is the first of: no version byte, bad
version, another ROM, and the first block in order that is not there (the model's choice, notes/assumptions/37.md). -/
def stateLoad (b : SaveState) (s : State) : Result :=
  if !runLoopPaused s then .refused .outOfPhase
  else
    match takeBytes 1 b.items with
    | .error f => .fault f
    | .ok v =>
      if v.1 ≠ [saveVersion] then .fault .saveBadVersion
      else if b.origin ≠ s.dev.cart then .refused .foreignState
      else
        match takeBlocks s.session.region v.2 with
        | .error f => .fault f
        | .ok k =>
          match cpuDeserialize k.cpu s with
          | none => .fault .saveTruncated
          | some t => .next (replaceBlocks k t)

/-- `deserialize(block)` of the CPU (R573, 10_state.md R67): a liberty "while paused; the block must come from the same ROM", which
`origin` says of it, as of a save state (R574). -/
def cpuLoad (block : List Byte) (origin : Option Cartridge) (s : State) : Result :=
  if !runLoopPaused s then .refused .outOfPhase
  else if origin ≠ s.dev.cart then .refused .foreignState
  else
    match cpuDeserialize block s with
    | none => .fault .saveTruncated
    | some t => .next t

end Sys2Proof.Machine
end

