-- ==== Sys2Proof/Machine/Session.lean ====
section
/-! DEFINITION. The session around the CPU (60_exceptions.md R570 to R573, 70_reset_and_hazards.md R601 to R603, R623): the run step
that couples CPU, PPU and APU, construction and teardown, ROM load, reset, start and stop, input; and the host table R573. -/

namespace Sys2Proof.Machine

/-- PPU dots per CPU cycle (00_scope.md R11, R570, R623): 3 for NTSC, the free `DotsPerCpuCycle` for PAL (D22). -/
def dotsPerCpuCycle (r : Region) : Ratio :=
  match r with
  | .ntsc => ⟨3, 0⟩
  | .pal => Config.palDotsPerCpuCycle

/-- The whole ticks that fall into a step of `cycles` cycles after `total` cycles, at `r` ticks per cycle: `cycles * r`, where a
fraction of a tick is carried on to the next step (the model's choice, notes/assumptions/20.md). -/
def ticksFor (r : Ratio) (total cycles : Nat) : Nat :=
  (total + cycles) * r.num / (r.denLessOne + 1) - total * r.num / (r.denLessOne + 1)

/-- Convert a step's cycle count into PPU-dot and APU-clock advances and apply them (R570), summing the count (10_state.md R64).
The rule says only that both are applied in the same call; that all the dots come first and the APU after them is the model's
choice (notes/assumptions/40.md). -/
def advanceDevices (cycles : Nat) (s : State) : State :=
  let region := s.session.region
  let total := s.session.totalCycles
  let s1 := { s with dev := recordEvent s.dev (.advance cycles) }
  let s2 := advanceDots (ticksFor (dotsPerCpuCycle region) total cycles) s1
  { s2 with
    dev := advanceApu (ticksFor (Config.apuClocksPerCycle region) total cycles) s2.dev
    session := { s2.session with totalCycles := total + cycles } }

/-- Apply the device advances of the count a step returned (R570). A halt step returned none (R620), so there is nothing to
advance by. -/
def advanceByCount (t : State) : State :=
  match t.cycles with
  | some n => advanceDevices n t
  | none => t

/-- The session's run step (R570): exactly one CPU instruction, then the device advances of its count. The model makes it in every
phase but destroyed when the CPU runs (the model's choice, notes/assumptions/29.md). -/
def sessionStep (s : State) : Result :=
  match s.session.phase with
  | .destroyed => .refused .outOfPhase
  | .unloaded | .loaded | .running | .paused =>
    match step s with
    | .next t => .next (advanceByCount t)
    | .fault f => .fault f
    | .refused r => .refused r

/-- All sub-component state reset in place (R601 to R603): CPU RAM takes `RamInit` (20_memory.md R112), VRAM and OAM any
content, the mapper, the PPU and the APU their reset, and then the CPU. The session's sum of cycles, which R64 and 00_scope.md R11
do not speak of here, goes on (the model's choice, notes/assumptions/8.md). R601 wires the mapper before the CPU's reset and gives no
other order: that the PPU comes before the APU and both before the CPU, whose vector reads so reach the devices after their reset, is
the model's choice (notes/assumptions/42.md). -/
def resetComponents (r : ResetRegs) (init : MemInit) (c : Cartridge) (s : State) : State :=
  let d := recordEvent s.dev .reset
  let d := { d with mapper := mapperReset c }
  let d := apuReset (ppuReset s.session.region init d)
  cpuReset r { s with ram := Memory.ofBytes 0x800 init.ram, dev := d }

/-- `loadRom` (R566 to R569, R601): a valid image becomes the cartridge, and everything is reset, the mapper and the mirroring
mode (20_memory.md R128) with it; an invalid one changes nothing. R570 gives it no transition from Running. The session's sum of
cycles goes on (the model's choice, notes/assumptions/8.md). -/
def loadRom (r : ResetRegs) (init : MemInit) (file : List Byte) (s : State) : Result :=
  match s.session.phase with
  | .running | .destroyed => .refused .outOfPhase
  | .unloaded | .loaded | .paused =>
    match parseRom file with
    | .error f => .fault f
    | .ok c =>
      .next
        (resetComponents r init c
          { s with
            dev := { recordEvent s.dev .loaded with cart := some c }
            session := { s.session with phase := .loaded } })

/-- The session's `reset()` (R601): reinitialises in place without reloading the ROM image. -/
def sessionReset (r : ResetRegs) (init : MemInit) (s : State) : Result :=
  match s.session.phase, s.dev.cart with
  | .loaded, some c | .running, some c | .paused, some c => .next (resetComponents r init c s)
  | _, _ => .refused .outOfPhase

/-- `startEmulation` (R570): to Running, and `beginExecution()`. -/
def startEmulation (s : State) : Result :=
  match s.session.phase with
  | .loaded | .paused | .running => .next (beginExecution { s with session := { s.session with phase := .running } })
  | .unloaded | .destroyed => .refused .outOfPhase

/-- The phase after `stopEmulation`: Paused after Running (R570), and any other as it was. -/
def phaseStopped (phase : SessionPhase) : SessionPhase :=
  match phase with
  | .running => .paused
  | .unloaded => .unloaded
  | .loaded => .loaded
  | .paused => .paused
  | .destroyed => .destroyed

/-- `stopEmulation` (R570, R572): `endExecution()` in every phase, and Running to Paused, without discarding state. It is "safe to
call at any time between instructions" and "idempotent". -/
def stopEmulation (s : State) : State :=
  endExecution { s with session := { s.session with phase := phaseStopped s.session.phase } }

/-- Teardown (R570): the three memories are "destroyed at session teardown" (20_memory.md R113). R570 draws an arrow to destroyed
from Paused; that the model allows it from every phase and ends execution with it (10_state.md R62) is its choice
(notes/assumptions/41.md). -/
def destroySession (s : State) : State :=
  endExecution
    { s with
      ram := []
      dev := { s.dev with vram := [], oam := [] }
      session := { s.session with phase := .destroyed } }

/-- Construction (R611; 20_memory.md R113: the memories are "Created at session construction"): a new session of a `Region`
(00_scope.md R11) with no ROM, `running` 0 (10_state.md R70), and everything else as after a reset (notes/assumptions/41.md). What
the devices were told before stays in their history, so nothing ties the free Bus to its earlier answers. -/
def constructSession (region : Region) (r : ResetRegs) (init : MemInit) (s : State) : State :=
  let fresh := State.resetIn region
  let d := { fresh.dev with events := .constructed :: s.dev.events }
  cpuReset r { fresh with ram := Memory.ofBytes 0x800 init.ram, dev := apuReset (ppuReset region init d) }

/-- The external input handler writes the button bitmasks (20_memory.md R123, R558). -/
def setButtons (pad1 pad2 : Buttons) (s : State) : State :=
  { s with dev := { recordEvent s.dev (.input pad1 pad2) with pad1 := pad1, pad2 := pad2 } }

/-- `setMirroring(mode)`, which R128 has "for some mapper variants" (20_memory.md). That the model makes it in every phase but
destroyed, with every mapper and with no ROM, is its choice (notes/assumptions/29.md). -/
def setMirroring (m : Mirroring) (s : State) : State :=
  let d := recordEvent s.dev (.mirroringSet m)
  { s with dev := { d with ppu := { d.ppu with mirroring := m } } }

/-- What the host can do to the machine between steps (R573), with the session's calls (R570, R571), the input handler's
(R558) and the devices' (R128, R555). `init` is configuration (10_state.md R63) and no call of a running machine. -/
inductive HostCall where
  | cpuReset (r : ResetRegs)
  | beginExecution
  | endExecution
  | requestNmi
  | requestIrq
  | deserialize (block : List Byte) (origin : Option Cartridge)
  | stepOneInstruction
  | sessionStep
  | loadRom (r : ResetRegs) (init : MemInit) (file : List Byte)
  | sessionReset (r : ResetRegs) (init : MemInit)
  | startEmulation
  | stopEmulation
  | stateLoad (b : SaveState)
  | setButtons (pad1 pad2 : Buttons)
  | setMirroring (m : Mirroring)
  | setApuRunning (on : Bool)
  | writeBuffer
  | destroy
  | construct (region : Region) (r : ResetRegs) (init : MemInit)
  deriving DecidableEq, Repr

/-- The one call a destroyed session answers is the construction of another, which no other session answers (R570, R113). -/
def callAllowed (phase : SessionPhase) (c : HostCall) : Bool :=
  match c with
  | .construct _ _ _ => phase == .destroyed
  | _ => phase != .destroyed

/-- What a call does that its phase allows (R573). Where the source ties a call to no phase, that it is made in every phase but
destroyed is the model's choice (notes/assumptions/29.md). -/
def makeCall (c : HostCall) (s : State) : Result :=
  match c with
  | .cpuReset r => .next (Sys2Proof.Machine.cpuReset r s)
  | .beginExecution => .next (Sys2Proof.Machine.beginExecution s)
  | .endExecution => .next (Sys2Proof.Machine.endExecution s)
  | .requestNmi => .next (Sys2Proof.Machine.requestNmi s)
  | .requestIrq => .next (Sys2Proof.Machine.requestIrq s)
  | .deserialize block origin => cpuLoad block origin s
  | .stepOneInstruction => step s
  | .sessionStep => Sys2Proof.Machine.sessionStep s
  | .loadRom r init file => Sys2Proof.Machine.loadRom r init file s
  | .sessionReset r init => Sys2Proof.Machine.sessionReset r init s
  | .startEmulation => Sys2Proof.Machine.startEmulation s
  | .stopEmulation => .next (Sys2Proof.Machine.stopEmulation s)
  | .stateLoad b => Sys2Proof.Machine.stateLoad b s
  | .setButtons pad1 pad2 => .next (Sys2Proof.Machine.setButtons pad1 pad2 s)
  | .setMirroring m => .next (Sys2Proof.Machine.setMirroring m s)
  | .setApuRunning on => .next (Sys2Proof.Machine.setApuRunning on s)
  | .writeBuffer => .next (Sys2Proof.Machine.writeBuffer s).2
  | .destroy => .next (destroySession s)
  | .construct region r init => .next (constructSession region r init s)

/-- One host call (R573). -/
def hostCall (c : HostCall) (s : State) : Result :=
  if callAllowed s.session.phase c then makeCall c s else .refused .outOfPhase

end Sys2Proof.Machine
end

