-- ==== Sys2Proof/Safety.lean ====
section
/-! DEFINITION. What a good state is and what the end of a run is, in the terms statements use: the invariant every step keeps,
the ways a step can go (00_scope.md R19), runs of host calls, and where a run ends (70_reset_and_hazards.md R630). -/

namespace Sys2Proof.Machine

/-- A loaded cartridge holds the banks its header declares, at least one PRG bank (60_exceptions.md R567, R569). -/
def Cartridge.wf (c : Cartridge) : Bool :=
  decide (0 < c.prgBanks) && decide (c.prg.length = prgBankSize * c.prgBanks) &&
    decide (c.chr.length = chrBankSize * c.chrBanks)

/-- The devices' part of the invariant, in a session of a region: VRAM and OAM in canonical form within their sizes (20_memory.md
R101, R102), a PPU at a place of the frame with at most 8 sprites kept for a line (60_exceptions.md R550, R552), and a
well-formed cartridge. -/
def Devices.wf (r : Region) (d : Devices) : Bool :=
  Memory.wf 0x8000 d.vram && Memory.wf 0x100 d.oam && goodPpu r d.ppu && (d.cart.map Cartridge.wf).getD true

/-- The invariant: every memory is in its canonical form within its size (20_memory.md R111), and the devices are well
formed. Every step keeps it, and it holds at State.reset. -/
def State.Inv (s : State) : Prop := Memory.wf 0x800 s.ram = true ∧ Devices.wf s.session.region s.dev = true

/-- What ends a run at a step boundary (R630): the CPU is halted, or PC is the end address. It does not say that the CPU stops there. -/
abbrev endOfRun (endAddr : Word) (s : State) : Prop := s.halted = true ∨ s.pc = endAddr

/-- The step has a next state (R19: `Next` or `Halt`). -/
def Completes (r : Result) : Prop := ∃ t, r = .next t

/-- Runs of the machine from a state under a list of host calls (R572, R573): each call that answers a next state is made, and
the run stops at the first that does not. -/
def runCalls : List HostCall → State → Result
  | [], s => .next s
  | c :: cs, s =>
    match hostCall c s with
    | .next t => runCalls cs t
    | .fault f => .fault f
    | .refused r => .refused r

/-- A run from a start state to its end (R630): the state at the first step boundary that ends it, among the boundaries between the
given host calls, or none if no such boundary is reached. The start state is a boundary, and so is the state between any two calls
(notes/assumptions/43.md). A claim about the end state may read registers and RAM only, not the devices (R630). -/
def runToEnd (endAddr : Word) : List HostCall → State → Option State
  | [], s => if endOfRun endAddr s then some s else none
  | c :: cs, s =>
    if endOfRun endAddr s then some s
    else
      match hostCall c s with
      | .next t => runToEnd endAddr cs t
      | .fault _ => none
      | .refused _ => none

/-- The run of the CPU alone, to its end within a number of steps (R630, R160). -/
def runSteps (endAddr : Word) (steps : Nat) (s : State) : Option State :=
  runToEnd endAddr (List.replicate steps .stepOneInstruction) s

end Sys2Proof.Machine
end

