-- ==== Sys2Proof/Certificates/Slice0/Obligations.lean ====
section
/-! DEFINITION. The statements for the provers, each formalising rules R<n> of spec/: first the vocabulary in which an
instruction rule is written (00_scope.md R20), then the statements, in the order of the spec's files. -/

namespace Sys2Proof.Claims

open Sys2Proof.Machine

/-- One encoding as an instruction rule lists it (00_scope.md R20): the opcode byte, the addressing mode, the length in
bytes, the base cycle count, and whether the rule adds "+1 if page crossed". -/
structure Enc where
  opcode : Byte
  mode : Mode
  bytes : Nat
  cycles : Nat
  plus : Bool
  deriving DecidableEq, Repr

/-- The operand in memory that a mode makes of the operand bytes (30_encoding.md R162, R173 to R181), none for a mode
without one. -/
def memOperand (m : Mode) (b1 b2 : Byte) : Option MemOperand :=
  match m with
  | .zp => some (.zp b1)
  | .zpx => some (.zpx b1)
  | .zpy => some (.zpy b1)
  | .abs => some (.abs (word b2 b1))
  | .absx => some (.absx (word b2 b1))
  | .absy => some (.absy (word b2 b1))
  | .ind => some (.ind (word b2 b1))
  | .indx => some (.indx b1)
  | .indy => some (.indy b1)
  | .imp | .acc | .imm | .rel => none

/-- The operand that a mode makes of the operand bytes (R162). -/
def operandOf (m : Mode) (b1 b2 : Byte) : Operand :=
  match m with
  | .imp => .implied
  | .acc => .accumulator
  | .imm => .immediate b1
  | .rel => .relative b1
  | .zp => .memory (.zp b1)
  | .zpx => .memory (.zpx b1)
  | .zpy => .memory (.zpy b1)
  | .abs => .memory (.abs (word b2 b1))
  | .absx => .memory (.absx (word b2 b1))
  | .absy => .memory (.absy (word b2 b1))
  | .ind => .memory (.ind (word b2 b1))
  | .indx => .memory (.indx b1)
  | .indy => .memory (.indy b1)

/-- The state in which the pseudocode of an instruction of n bytes starts: PC past it (R163). -/
def start (n : Nat) (s : State) : State := { s with pc := s.pc + BitVec.ofNat 16 n }

/-- `SetNZ(v)` (00_scope.md R17). -/
def nz (v : Byte) (p : Flags) : Flags := { p with n := v.getLsbD 7, z := decide (v = 0) }

/-- What a read-class instruction holds when its effect starts: the operand byte, whether the index crossed a page, and the
state after the reads. -/
structure Got where
  value : Byte
  cross : Bool
  state : State

/-- The operand of the read class (R183): "`M <- b1` in mode IMM, else `M <- MemRead(EA, 1)`, exactly once". -/
def Enc.got (e : Enc) (b1 b2 : Byte) (s : State) : Got :=
  match memOperand e.mode b1 b2 with
  | none => ⟨b1, false, start e.bytes s⟩
  | some m =>
    let ea := effAddr m (start e.bytes s)
    let v := memRead ea.addr ea.state
    ⟨v.1, ea.cross, v.2⟩

/-- The count of a read-class instruction (R185): the base count, and one more when the encoding says so and the index crossed
a page. -/
def Enc.cost (e : Enc) (cross : Bool) : Option Nat := some (e.cycles + if e.plus && cross then 1 else 0)

/-- Every listed opcode is a read-class instruction that completes with the effect f of its operand byte M, PC past it, the
listed count, and everything else as the reads of the operand leave it. -/
def ReadsTo (encs : List Enc) (f : Byte → State → State) : Prop :=
  ∀ e ∈ encs, ∀ b1 b2 s,
    exec (decodeOp e.opcode b1 b2) s =
      .next { f (e.got b1 b2 s).value (e.got b1 b2 s).state with cycles := e.cost (e.got b1 b2 s).cross }

/-- Every listed opcode is a write-class instruction that completes with exactly one write, of v, at its effective address, PC
past it, the listed count, and nothing else changed. -/
def WritesTo (encs : List Enc) (v : State → Byte) : Prop :=
  ∀ e ∈ encs, ∀ b1 b2 s, ∃ m, memOperand e.mode b1 b2 = some m ∧
    exec (decodeOp e.opcode b1 b2) s =
      .next
        { memWrite (effAddr m (start e.bytes s)).addr (v s) (effAddr m (start e.bytes s)).state with
          cycles := some e.cycles }

/-- Every listed opcode is a read-modify-write instruction that completes: one read of v at its effective address, one write of
`r = f v C` there, then the effect g of v and r, PC past it, the listed count. -/
def ModifiesTo (encs : List Enc) (f : Byte → Bool → Byte) (g : Byte → Byte → State → State) : Prop :=
  ∀ e ∈ encs, ∀ b1 b2 s, ∃ m, memOperand e.mode b1 b2 = some m ∧
    let ea := effAddr m (start e.bytes s)
    let v := memRead ea.addr ea.state
    let r := f v.1 s.p.c
    exec (decodeOp e.opcode b1 b2) s = .next { g v.1 r (memWrite ea.addr r v.2) with cycles := some e.cycles }

/-- A shift or rotate in its two kinds of mode (46_shift.md): on A in mode ACC, with no memory access, else as `ModifiesTo`. The
result is `f v C`, C becomes `carry v`, and N and Z are the result's. -/
def ShiftsTo (encs : List Enc) (f : Byte → Bool → Byte) (carry : Byte → Bool) : Prop :=
  ∀ e ∈ encs, ∀ b1 b2 s, exec (decodeOp e.opcode b1 b2) s =
    match memOperand e.mode b1 b2 with
    | none =>
      .next
        { start e.bytes s with
          a := f s.a s.p.c
          p := nz (f s.a s.p.c) { s.p with c := carry s.a }
          cycles := some e.cycles }
    | some m =>
      let ea := effAddr m (start e.bytes s)
      let v := memRead ea.addr ea.state
      let r := f v.1 s.p.c
      .next { memWrite ea.addr r v.2 with p := nz r { s.p with c := carry v.1 }, cycles := some e.cycles }

/-- The opcode is a one-byte instruction that completes with the effect f, PC past it, and the count. -/
def OneByte (opcode : Byte) (cycles : Nat) (f : State → State) : Prop :=
  ∀ b1 b2 s, exec (decodeOp opcode b1 b2) s = .next { f (start 1 s) with cycles := some cycles }

/-- The pseudocode of ADC (43_arithmetic.md R330). -/
def adc (m : Byte) (s : State) : State :=
  let sum := s.a.toNat + m.toNat + s.p.c.toNat
  let r := BitVec.ofNat 8 (sum % 256)
  { s with
    a := r
    p := nz r { s.p with c := decide (255 < sum), v := (~~~(s.a ^^^ m) &&& (s.a ^^^ r)).getLsbD 7 } }

/-- The pseudocode of SBC (R333). -/
def sbc (m : Byte) (s : State) : State :=
  let m' := BitVec.ofNat 8 (255 - m.toNat)
  let sum := s.a.toNat + m'.toNat + s.p.c.toNat
  let r := BitVec.ofNat 8 (sum % 256)
  { s with
    a := r
    p := nz r { s.p with c := decide (255 < sum), v := (~~~(s.a ^^^ m') &&& (s.a ^^^ r)).getLsbD 7 } }

/-- The pseudocode of `Compare(R, M)` (R339). -/
def compareBytes (r m : Byte) (s : State) : State :=
  let d := BitVec.ofNat 8 ((256 + r.toNat - m.toNat) % 256)
  { s with p := { s.p with c := decide (m.toNat ≤ r.toNat), z := decide (r = m), n := d.getLsbD 7 } }

/-- `(v * 2) mod 2^8` (46_shift.md R365). -/
def double (v : Byte) (_ : Bool) : Byte := BitVec.ofNat 8 (v.toNat * 2 % 256)

/-- `v div 2` (R366). -/
def halve (v : Byte) (_ : Bool) : Byte := BitVec.ofNat 8 (v.toNat / 2)

/-- `(v * 2 + c) mod 2^8` (R367). -/
def rollLeft (v : Byte) (c : Bool) : Byte := BitVec.ofNat 8 ((v.toNat * 2 + c.toNat) % 256)

/-- `(v div 2) + c * 128` (R368). -/
def rollRight (v : Byte) (c : Bool) : Byte := BitVec.ofNat 8 (v.toNat / 2 + c.toNat * 128)

/-- `sext_16(b)` as 00_scope.md R14 writes it. -/
def sext (b : Byte) : Word := BitVec.ofNat 16 (if b.toNat < 128 then b.toNat else b.toNat + 65280)

/-- The physical RAM byte an address below $2000 names (20_memory.md R103, R111), none for another address. -/
def ramByte (a : Word) : Option Nat := if a.toNat < 0x2000 then some (a.toNat % 0x800) else none

/-- The encodings of LDA, as R300 lists them. -/
def ldaEncodings : List Enc :=
  [⟨0xA9, .imm, 2, 2, false⟩, ⟨0xA5, .zp, 2, 3, false⟩, ⟨0xB5, .zpx, 2, 4, false⟩, ⟨0xAD, .abs, 3, 4, false⟩,
   ⟨0xBD, .absx, 3, 4, true⟩, ⟨0xB9, .absy, 3, 4, true⟩, ⟨0xA1, .indx, 2, 6, false⟩, ⟨0xB1, .indy, 2, 5, true⟩]

/-- The encodings of LDX, as R301 lists them. -/
def ldxEncodings : List Enc :=
  [⟨0xA2, .imm, 2, 2, false⟩, ⟨0xA6, .zp, 2, 3, false⟩, ⟨0xB6, .zpy, 2, 4, false⟩, ⟨0xAE, .abs, 3, 4, false⟩,
   ⟨0xBE, .absy, 3, 4, true⟩]

/-- The encodings of LDY, as R302 lists them. -/
def ldyEncodings : List Enc :=
  [⟨0xA0, .imm, 2, 2, false⟩, ⟨0xA4, .zp, 2, 3, false⟩, ⟨0xB4, .zpx, 2, 4, false⟩, ⟨0xAC, .abs, 3, 4, false⟩,
   ⟨0xBC, .absx, 3, 4, true⟩]

/-- The encodings of STA, as R303 lists them. -/
def staEncodings : List Enc :=
  [⟨0x85, .zp, 2, 3, false⟩, ⟨0x95, .zpx, 2, 4, false⟩, ⟨0x8D, .abs, 3, 4, false⟩, ⟨0x9D, .absx, 3, 5, false⟩,
   ⟨0x99, .absy, 3, 5, false⟩, ⟨0x81, .indx, 2, 6, false⟩, ⟨0x91, .indy, 2, 6, false⟩]

/-- The encodings of STX, as R304 lists them. -/
def stxEncodings : List Enc :=
  [⟨0x86, .zp, 2, 3, false⟩, ⟨0x96, .zpy, 2, 4, false⟩, ⟨0x8E, .abs, 3, 4, false⟩]

/-- The encodings of STY, as R305 lists them. -/
def styEncodings : List Enc :=
  [⟨0x84, .zp, 2, 3, false⟩, ⟨0x94, .zpx, 2, 4, false⟩, ⟨0x8C, .abs, 3, 4, false⟩]

/-- The encodings of ADC, as R330 lists them. -/
def adcEncodings : List Enc :=
  [⟨0x69, .imm, 2, 2, false⟩, ⟨0x65, .zp, 2, 3, false⟩, ⟨0x75, .zpx, 2, 4, false⟩, ⟨0x6D, .abs, 3, 4, false⟩,
   ⟨0x7D, .absx, 3, 4, true⟩, ⟨0x79, .absy, 3, 4, true⟩, ⟨0x61, .indx, 2, 6, false⟩, ⟨0x71, .indy, 2, 5, true⟩]

/-- The encodings of SBC, as R333 lists them. -/
def sbcEncodings : List Enc :=
  [⟨0xE9, .imm, 2, 2, false⟩, ⟨0xE5, .zp, 2, 3, false⟩, ⟨0xF5, .zpx, 2, 4, false⟩, ⟨0xED, .abs, 3, 4, false⟩,
   ⟨0xFD, .absx, 3, 4, true⟩, ⟨0xF9, .absy, 3, 4, true⟩, ⟨0xE1, .indx, 2, 6, false⟩, ⟨0xF1, .indy, 2, 5, true⟩]

/-- The encodings of CMP, as R336 lists them. -/
def cmpEncodings : List Enc :=
  [⟨0xC9, .imm, 2, 2, false⟩, ⟨0xC5, .zp, 2, 3, false⟩, ⟨0xD5, .zpx, 2, 4, false⟩, ⟨0xCD, .abs, 3, 4, false⟩,
   ⟨0xDD, .absx, 3, 4, true⟩, ⟨0xD9, .absy, 3, 4, true⟩, ⟨0xC1, .indx, 2, 6, false⟩, ⟨0xD1, .indy, 2, 5, true⟩]

/-- The encodings of CPX, as R337 lists them. -/
def cpxEncodings : List Enc :=
  [⟨0xE0, .imm, 2, 2, false⟩, ⟨0xE4, .zp, 2, 3, false⟩, ⟨0xEC, .abs, 3, 4, false⟩]

/-- The encodings of CPY, as R338 lists them. -/
def cpyEncodings : List Enc :=
  [⟨0xC0, .imm, 2, 2, false⟩, ⟨0xC4, .zp, 2, 3, false⟩, ⟨0xCC, .abs, 3, 4, false⟩]

/-- The encodings of INC, as R345 lists them. -/
def incEncodings : List Enc :=
  [⟨0xE6, .zp, 2, 5, false⟩, ⟨0xF6, .zpx, 2, 6, false⟩, ⟨0xEE, .abs, 3, 6, false⟩, ⟨0xFE, .absx, 3, 7, false⟩]

/-- The encodings of DEC, as R346 lists them. -/
def decEncodings : List Enc :=
  [⟨0xC6, .zp, 2, 5, false⟩, ⟨0xD6, .zpx, 2, 6, false⟩, ⟨0xCE, .abs, 3, 6, false⟩, ⟨0xDE, .absx, 3, 7, false⟩]

/-- The encodings of AND, as R355 lists them. -/
def andEncodings : List Enc :=
  [⟨0x29, .imm, 2, 2, false⟩, ⟨0x25, .zp, 2, 3, false⟩, ⟨0x35, .zpx, 2, 4, false⟩, ⟨0x2D, .abs, 3, 4, false⟩,
   ⟨0x3D, .absx, 3, 4, true⟩, ⟨0x39, .absy, 3, 4, true⟩, ⟨0x21, .indx, 2, 6, false⟩, ⟨0x31, .indy, 2, 5, true⟩]

/-- The encodings of ORA, as R356 lists them. -/
def oraEncodings : List Enc :=
  [⟨0x09, .imm, 2, 2, false⟩, ⟨0x05, .zp, 2, 3, false⟩, ⟨0x15, .zpx, 2, 4, false⟩, ⟨0x0D, .abs, 3, 4, false⟩,
   ⟨0x1D, .absx, 3, 4, true⟩, ⟨0x19, .absy, 3, 4, true⟩, ⟨0x01, .indx, 2, 6, false⟩, ⟨0x11, .indy, 2, 5, true⟩]

/-- The encodings of EOR, as R357 lists them. -/
def eorEncodings : List Enc :=
  [⟨0x49, .imm, 2, 2, false⟩, ⟨0x45, .zp, 2, 3, false⟩, ⟨0x55, .zpx, 2, 4, false⟩, ⟨0x4D, .abs, 3, 4, false⟩,
   ⟨0x5D, .absx, 3, 4, true⟩, ⟨0x59, .absy, 3, 4, true⟩, ⟨0x41, .indx, 2, 6, false⟩, ⟨0x51, .indy, 2, 5, true⟩]

/-- The encodings of BIT, as R358 lists them. -/
def bitEncodings : List Enc :=
  [⟨0x24, .zp, 2, 3, false⟩, ⟨0x2C, .abs, 3, 4, false⟩]

/-- The encodings of ASL, as R365 lists them. -/
def aslEncodings : List Enc :=
  [⟨0x0A, .acc, 1, 2, false⟩, ⟨0x06, .zp, 2, 5, false⟩, ⟨0x16, .zpx, 2, 6, false⟩, ⟨0x0E, .abs, 3, 6, false⟩,
   ⟨0x1E, .absx, 3, 7, false⟩]

/-- The encodings of LSR, as R366 lists them. -/
def lsrEncodings : List Enc :=
  [⟨0x4A, .acc, 1, 2, false⟩, ⟨0x46, .zp, 2, 5, false⟩, ⟨0x56, .zpx, 2, 6, false⟩, ⟨0x4E, .abs, 3, 6, false⟩,
   ⟨0x5E, .absx, 3, 7, false⟩]

/-- The encodings of ROL, as R367 lists them. -/
def rolEncodings : List Enc :=
  [⟨0x2A, .acc, 1, 2, false⟩, ⟨0x26, .zp, 2, 5, false⟩, ⟨0x36, .zpx, 2, 6, false⟩, ⟨0x2E, .abs, 3, 6, false⟩,
   ⟨0x3E, .absx, 3, 7, false⟩]

/-- The encodings of ROR, as R368 lists them. -/
def rorEncodings : List Enc :=
  [⟨0x6A, .acc, 1, 2, false⟩, ⟨0x66, .zp, 2, 5, false⟩, ⟨0x76, .zpx, 2, 6, false⟩, ⟨0x6E, .abs, 3, 6, false⟩,
   ⟨0x7E, .absx, 3, 7, false⟩]

/-- The encodings of NOP, as R421 lists them. -/
def nopUndocEncodings : List Enc :=
  [⟨0x1A, .imp, 1, 2, false⟩, ⟨0x3A, .imp, 1, 2, false⟩, ⟨0x5A, .imp, 1, 2, false⟩, ⟨0x7A, .imp, 1, 2, false⟩,
   ⟨0xDA, .imp, 1, 2, false⟩, ⟨0xFA, .imp, 1, 2, false⟩, ⟨0x80, .imm, 2, 2, false⟩, ⟨0x82, .imm, 2, 2, false⟩,
   ⟨0x89, .imm, 2, 2, false⟩, ⟨0xC2, .imm, 2, 2, false⟩, ⟨0xE2, .imm, 2, 2, false⟩, ⟨0x04, .zp, 2, 3, false⟩,
   ⟨0x44, .zp, 2, 3, false⟩, ⟨0x64, .zp, 2, 3, false⟩, ⟨0x14, .zpx, 2, 4, false⟩, ⟨0x34, .zpx, 2, 4, false⟩,
   ⟨0x54, .zpx, 2, 4, false⟩, ⟨0x74, .zpx, 2, 4, false⟩, ⟨0xD4, .zpx, 2, 4, false⟩, ⟨0xF4, .zpx, 2, 4, false⟩,
   ⟨0x0C, .abs, 3, 4, false⟩, ⟨0x1C, .absx, 3, 4, true⟩, ⟨0x3C, .absx, 3, 4, true⟩, ⟨0x5C, .absx, 3, 4, true⟩,
   ⟨0x7C, .absx, 3, 4, true⟩, ⟨0xDC, .absx, 3, 4, true⟩, ⟨0xFC, .absx, 3, 4, true⟩]

/-- The encodings of SLO, as R422 lists them. -/
def sloEncodings : List Enc :=
  [⟨0x07, .zp, 2, 5, false⟩, ⟨0x17, .zpx, 2, 6, false⟩, ⟨0x0F, .abs, 3, 6, false⟩, ⟨0x1F, .absx, 3, 7, false⟩,
   ⟨0x1B, .absy, 3, 7, false⟩, ⟨0x03, .indx, 2, 8, false⟩, ⟨0x13, .indy, 2, 8, false⟩]

/-- The encodings of RLA, as R423 lists them. -/
def rlaEncodings : List Enc :=
  [⟨0x27, .zp, 2, 5, false⟩, ⟨0x37, .zpx, 2, 6, false⟩, ⟨0x2F, .abs, 3, 6, false⟩, ⟨0x3F, .absx, 3, 7, false⟩,
   ⟨0x3B, .absy, 3, 7, false⟩, ⟨0x23, .indx, 2, 8, false⟩, ⟨0x33, .indy, 2, 8, false⟩]

/-- The encodings of SRE, as R424 lists them. -/
def sreEncodings : List Enc :=
  [⟨0x47, .zp, 2, 5, false⟩, ⟨0x57, .zpx, 2, 6, false⟩, ⟨0x4F, .abs, 3, 6, false⟩, ⟨0x5F, .absx, 3, 7, false⟩,
   ⟨0x5B, .absy, 3, 7, false⟩, ⟨0x43, .indx, 2, 8, false⟩, ⟨0x53, .indy, 2, 8, false⟩]

/-- The encodings of RRA, as R425 lists them. -/
def rraEncodings : List Enc :=
  [⟨0x67, .zp, 2, 5, false⟩, ⟨0x77, .zpx, 2, 6, false⟩, ⟨0x6F, .abs, 3, 6, false⟩, ⟨0x7F, .absx, 3, 7, false⟩,
   ⟨0x7B, .absy, 3, 7, false⟩, ⟨0x63, .indx, 2, 8, false⟩, ⟨0x73, .indy, 2, 8, false⟩]

/-- The encodings of SAX, as R426 lists them. -/
def saxEncodings : List Enc :=
  [⟨0x87, .zp, 2, 3, false⟩, ⟨0x97, .zpy, 2, 4, false⟩, ⟨0x8F, .abs, 3, 4, false⟩, ⟨0x83, .indx, 2, 6, false⟩]

/-- The encodings of LAX, as R427 lists them. -/
def laxEncodings : List Enc :=
  [⟨0xA7, .zp, 2, 3, false⟩, ⟨0xB7, .zpy, 2, 4, false⟩, ⟨0xAF, .abs, 3, 4, false⟩, ⟨0xBF, .absy, 3, 4, true⟩,
   ⟨0xA3, .indx, 2, 6, false⟩, ⟨0xB3, .indy, 2, 5, true⟩]

/-- The encodings of DCP, as R428 lists them. -/
def dcpEncodings : List Enc :=
  [⟨0xC7, .zp, 2, 5, false⟩, ⟨0xD7, .zpx, 2, 6, false⟩, ⟨0xCF, .abs, 3, 6, false⟩, ⟨0xDF, .absx, 3, 7, false⟩,
   ⟨0xDB, .absy, 3, 7, false⟩, ⟨0xC3, .indx, 2, 8, false⟩, ⟨0xD3, .indy, 2, 8, false⟩]

/-- The encodings of ISC, as R429 lists them. -/
def iscEncodings : List Enc :=
  [⟨0xE7, .zp, 2, 5, false⟩, ⟨0xF7, .zpx, 2, 6, false⟩, ⟨0xEF, .abs, 3, 6, false⟩, ⟨0xFF, .absx, 3, 7, false⟩,
   ⟨0xFB, .absy, 3, 7, false⟩, ⟨0xE3, .indx, 2, 8, false⟩, ⟨0xF3, .indy, 2, 8, false⟩]

/-- The encodings of ANC, as R430 lists them. -/
def ancEncodings : List Enc :=
  [⟨0x0B, .imm, 2, 2, false⟩, ⟨0x2B, .imm, 2, 2, false⟩]

/-- The encodings of ALR, as R431 lists them. -/
def alrEncodings : List Enc :=
  [⟨0x4B, .imm, 2, 2, false⟩]

/-- The encodings of ARR, as R432 lists them. -/
def arrEncodings : List Enc :=
  [⟨0x6B, .imm, 2, 2, false⟩]

/-- The encodings of AXS, as R433 lists them. -/
def axsEncodings : List Enc :=
  [⟨0xCB, .imm, 2, 2, false⟩]

/-- The encodings of SBC, as R434 lists them. -/
def sbcUndocEncodings : List Enc :=
  [⟨0xEB, .imm, 2, 2, false⟩]

/-- The encodings of LAS, as R435 lists them. -/
def lasEncodings : List Enc :=
  [⟨0xBB, .absy, 3, 4, true⟩]

/-- R191's rows, part 1. -/
def opcodeMap1 : List (Mnemonic × List (Mode × List Byte)) :=
  [(.lda, [(.imm, [0xA9]), (.zp, [0xA5]), (.zpx, [0xB5]), (.abs, [0xAD]), (.absx, [0xBD]), (.absy, [0xB9]),
      (.indx, [0xA1]), (.indy, [0xB1])]),
   (.ldx, [(.imm, [0xA2]), (.zp, [0xA6]), (.zpy, [0xB6]), (.abs, [0xAE]), (.absy, [0xBE])]),
   (.ldy, [(.imm, [0xA0]), (.zp, [0xA4]), (.zpx, [0xB4]), (.abs, [0xAC]), (.absx, [0xBC])]),
   (.sta, [(.zp, [0x85]), (.zpx, [0x95]), (.abs, [0x8D]), (.absx, [0x9D]), (.absy, [0x99]), (.indx, [0x81]),
      (.indy, [0x91])]),
   (.stx, [(.zp, [0x86]), (.zpy, [0x96]), (.abs, [0x8E])]),
   (.sty, [(.zp, [0x84]), (.zpx, [0x94]), (.abs, [0x8C])]),
   (.tax, [(.imp, [0xAA])]),
   (.tay, [(.imp, [0xA8])]),
   (.txa, [(.imp, [0x8A])]),
   (.tya, [(.imp, [0x98])]),
   (.tsx, [(.imp, [0xBA])]),
   (.txs, [(.imp, [0x9A])]),
   (.pha, [(.imp, [0x48])]),
   (.php, [(.imp, [0x08])]),
   (.pla, [(.imp, [0x68])]),
   (.plp, [(.imp, [0x28])]),
   (.adc, [(.imm, [0x69]), (.zp, [0x65]), (.zpx, [0x75]), (.abs, [0x6D]), (.absx, [0x7D]), (.absy, [0x79]),
      (.indx, [0x61]), (.indy, [0x71])]),
   (.sbc, [(.imm, [0xE9]), (.zp, [0xE5]), (.zpx, [0xF5]), (.abs, [0xED]), (.absx, [0xFD]), (.absy, [0xF9]),
      (.indx, [0xE1]), (.indy, [0xF1])]),
   (.cmp, [(.imm, [0xC9]), (.zp, [0xC5]), (.zpx, [0xD5]), (.abs, [0xCD]), (.absx, [0xDD]), (.absy, [0xD9]),
      (.indx, [0xC1]), (.indy, [0xD1])]),
   (.cpx, [(.imm, [0xE0]), (.zp, [0xE4]), (.abs, [0xEC])])]

/-- R191's rows, part 2. -/
def opcodeMap2 : List (Mnemonic × List (Mode × List Byte)) :=
  [(.cpy, [(.imm, [0xC0]), (.zp, [0xC4]), (.abs, [0xCC])]),
   (.inc, [(.zp, [0xE6]), (.zpx, [0xF6]), (.abs, [0xEE]), (.absx, [0xFE])]),
   (.dec, [(.zp, [0xC6]), (.zpx, [0xD6]), (.abs, [0xCE]), (.absx, [0xDE])]),
   (.inx, [(.imp, [0xE8])]),
   (.iny, [(.imp, [0xC8])]),
   (.dex, [(.imp, [0xCA])]),
   (.dey, [(.imp, [0x88])]),
   (.and, [(.imm, [0x29]), (.zp, [0x25]), (.zpx, [0x35]), (.abs, [0x2D]), (.absx, [0x3D]), (.absy, [0x39]),
      (.indx, [0x21]), (.indy, [0x31])]),
   (.ora, [(.imm, [0x09]), (.zp, [0x05]), (.zpx, [0x15]), (.abs, [0x0D]), (.absx, [0x1D]), (.absy, [0x19]),
      (.indx, [0x01]), (.indy, [0x11])]),
   (.eor, [(.imm, [0x49]), (.zp, [0x45]), (.zpx, [0x55]), (.abs, [0x4D]), (.absx, [0x5D]), (.absy, [0x59]),
      (.indx, [0x41]), (.indy, [0x51])]),
   (.bit, [(.zp, [0x24]), (.abs, [0x2C])]),
   (.asl, [(.acc, [0x0A]), (.zp, [0x06]), (.zpx, [0x16]), (.abs, [0x0E]), (.absx, [0x1E])]),
   (.lsr, [(.acc, [0x4A]), (.zp, [0x46]), (.zpx, [0x56]), (.abs, [0x4E]), (.absx, [0x5E])]),
   (.rol, [(.acc, [0x2A]), (.zp, [0x26]), (.zpx, [0x36]), (.abs, [0x2E]), (.absx, [0x3E])]),
   (.ror, [(.acc, [0x6A]), (.zp, [0x66]), (.zpx, [0x76]), (.abs, [0x6E]), (.absx, [0x7E])]),
   (.jmp, [(.abs, [0x4C]), (.ind, [0x6C])]),
   (.jsr, [(.abs, [0x20])]),
   (.rts, [(.imp, [0x60])]),
   (.bpl, [(.rel, [0x10])]),
   (.bmi, [(.rel, [0x30])])]

/-- R191's rows, part 3. -/
def opcodeMap3 : List (Mnemonic × List (Mode × List Byte)) :=
  [(.bvc, [(.rel, [0x50])]),
   (.bvs, [(.rel, [0x70])]),
   (.bcc, [(.rel, [0x90])]),
   (.bcs, [(.rel, [0xB0])]),
   (.bne, [(.rel, [0xD0])]),
   (.beq, [(.rel, [0xF0])]),
   (.clc, [(.imp, [0x18])]),
   (.sec, [(.imp, [0x38])]),
   (.cli, [(.imp, [0x58])]),
   (.sei, [(.imp, [0x78])]),
   (.cld, [(.imp, [0xD8])]),
   (.sed, [(.imp, [0xF8])]),
   (.clv, [(.imp, [0xB8])]),
   (.nop, [(.imp, [0xEA])]),
   (.brk, [(.imp, [0x00])]),
   (.rti, [(.imp, [0x40])]),
   (.nop, [(.imp, [0x1A, 0x3A, 0x5A, 0x7A, 0xDA, 0xFA]), (.imm, [0x80, 0x82, 0x89, 0xC2, 0xE2]),
      (.zp, [0x04, 0x44, 0x64]), (.zpx, [0x14, 0x34, 0x54, 0x74, 0xD4, 0xF4]), (.abs, [0x0C]),
      (.absx, [0x1C, 0x3C, 0x5C, 0x7C, 0xDC, 0xFC])]),
   (.slo, [(.zp, [0x07]), (.zpx, [0x17]), (.abs, [0x0F]), (.absx, [0x1F]), (.absy, [0x1B]), (.indx, [0x03]),
      (.indy, [0x13])]),
   (.rla, [(.zp, [0x27]), (.zpx, [0x37]), (.abs, [0x2F]), (.absx, [0x3F]), (.absy, [0x3B]), (.indx, [0x23]),
      (.indy, [0x33])]),
   (.sre, [(.zp, [0x47]), (.zpx, [0x57]), (.abs, [0x4F]), (.absx, [0x5F]), (.absy, [0x5B]), (.indx, [0x43]),
      (.indy, [0x53])])]

/-- R191's rows, part 4. -/
def opcodeMap4 : List (Mnemonic × List (Mode × List Byte)) :=
  [(.rra, [(.zp, [0x67]), (.zpx, [0x77]), (.abs, [0x6F]), (.absx, [0x7F]), (.absy, [0x7B]), (.indx, [0x63]),
      (.indy, [0x73])]),
   (.sax, [(.zp, [0x87]), (.zpy, [0x97]), (.abs, [0x8F]), (.indx, [0x83])]),
   (.lax, [(.zp, [0xA7]), (.zpy, [0xB7]), (.abs, [0xAF]), (.absy, [0xBF]), (.indx, [0xA3]), (.indy, [0xB3])]),
   (.dcp, [(.zp, [0xC7]), (.zpx, [0xD7]), (.abs, [0xCF]), (.absx, [0xDF]), (.absy, [0xDB]), (.indx, [0xC3]),
      (.indy, [0xD3])]),
   (.isc, [(.zp, [0xE7]), (.zpx, [0xF7]), (.abs, [0xEF]), (.absx, [0xFF]), (.absy, [0xFB]), (.indx, [0xE3]),
      (.indy, [0xF3])]),
   (.anc, [(.imm, [0x0B, 0x2B])]),
   (.alr, [(.imm, [0x4B])]),
   (.arr, [(.imm, [0x6B])]),
   (.axs, [(.imm, [0xCB])]),
   (.sbc, [(.imm, [0xEB])]),
   (.las, [(.absy, [0xBB])]),
   (.jam, [(.imp, [0x02, 0x12, 0x22, 0x32, 0x42, 0x52, 0x62, 0x72, 0x92, 0xB2, 0xD2, 0xF2])]),
   (.ane, [(.imm, [0x8B])]),
   (.sha, [(.absy, [0x9F]), (.indy, [0x93])]),
   (.shs, [(.absy, [0x9B])]),
   (.shy, [(.absx, [0x9C])]),
   (.shx, [(.absy, [0x9E])]),
   (.lxa, [(.imm, [0xAB])])]

/-- R191: each mnemonic with its addressing modes and their opcode bytes; for a halting row the mode is the nominal one. -/
def opcodeMap : List (Mnemonic × List (Mode × List Byte)) := opcodeMap1 ++ opcodeMap2 ++ opcodeMap3 ++ opcodeMap4

/-- The 19 halting opcodes (30_encoding.md R226). -/
def haltingOpcodes : List Byte :=
  [0x02, 0x12, 0x22, 0x32, 0x42, 0x52, 0x62, 0x72, 0x92, 0xB2, 0xD2, 0xF2, 0x8B, 0xAB, 0x93, 0x9F, 0x9B, 0x9C, 0x9E]

/-- The eight branches (47_control.md R386 to R393): opcode and condition. -/
def branches : List (Byte × (Flags → Bool)) :=
  [(0x10, fun p => !p.n), (0x30, fun p => p.n), (0x50, fun p => !p.v), (0x70, fun p => p.v), (0x90, fun p => !p.c),
   (0xB0, fun p => p.c), (0xD0, fun p => !p.z), (0xF0, fun p => p.z)]

/-- The mnemonics that write A in every mode (10_state.md R53). -/
def writersOfA : List Mnemonic :=
  [.lda, .txa, .tya, .pla, .adc, .sbc, .and, .ora, .eor, .slo, .rla, .sre, .rra, .isc, .lax, .anc, .alr, .arr, .las]

/-- The mnemonics that write A in accumulator mode only (R53). -/
def shifts : List Mnemonic := [.asl, .lsr, .rol, .ror]

/-- The mnemonics that write X (R53). -/
def writersOfX : List Mnemonic := [.ldx, .tax, .tsx, .inx, .dex, .lax, .axs, .las]

/-- The mnemonics that write Y (R53). -/
def writersOfY : List Mnemonic := [.ldy, .tay, .iny, .dey]

/-- The mnemonics that write SP (R53). -/
def writersOfSp : List Mnemonic := [.txs, .pha, .php, .pla, .plp, .jsr, .rts, .rti, .brk, .las]

/-- The mnemonics that write N and Z (R57). -/
def writersOfNZ : List Mnemonic :=
  [.lda, .ldx, .ldy, .tax, .tay, .txa, .tya, .tsx, .pla, .adc, .sbc, .cmp, .cpx, .cpy, .inc, .inx, .iny, .dec, .dex, .dey,
   .and, .ora, .eor, .bit, .asl, .lsr, .rol, .ror, .plp, .rti, .slo, .rla, .sre, .rra, .lax, .dcp, .isc, .anc, .alr,
   .arr, .axs, .las]

/-- The mnemonics that write V (R57). -/
def writersOfV : List Mnemonic := [.adc, .sbc, .bit, .clv, .plp, .rti, .rra, .isc, .arr]

/-- The mnemonics that write D (R57). -/
def writersOfD : List Mnemonic := [.cld, .sed, .plp, .rti]

/-- The mnemonics that write I (R57). -/
def writersOfI : List Mnemonic := [.sei, .cli, .plp, .rti, .brk]

/-- The mnemonics that write C (R57). -/
def writersOfC : List Mnemonic :=
  [.adc, .sbc, .cmp, .cpx, .cpy, .asl, .lsr, .rol, .ror, .clc, .sec, .plp, .rti, .slo, .rla, .sre, .rra, .dcp, .isc,
   .anc, .alr, .arr, .axs]

/-- The mnemonics that transfer control (R53: branches, JMP, JSR, RTS, RTI, BRK). -/
def transfers : List Mnemonic :=
  [.bpl, .bmi, .bvc, .bvs, .bcc, .bcs, .bne, .beq, .jmp, .jsr, .rts, .rti, .brk]

/-- The mnemonics that store at their effective address when their operand is in memory: the write class and the
read-modify-write class (30_encoding.md R183). -/
def storers : List Mnemonic :=
  [.sta, .stx, .sty, .sax, .asl, .lsr, .rol, .ror, .inc, .dec, .slo, .rla, .sre, .rra, .dcp, .isc]

/-- The instruction stores at its effective address (R183). -/
def storesAt (i : Instr) (m : MemOperand) : Prop := i.operand = .memory m ∧ i.mnemonic ∈ storers

/-- How many bytes the instruction pushes (42_stack.md R320, R321; 47_control.md R376; 48_flags_system.md R409). -/
def pushes (i : Instr) : Nat :=
  match i.mnemonic with
  | .pha | .php => 1
  | .jsr => 2
  | .brk => 3
  | _ => 0

/-- The step takes no interrupt at its poll (60_exceptions.md R510, R511). -/
def quiet (s : State) : Prop := s.nmiPending = false ∧ (s.irqPending = false ∨ s.p.i = true)

/-- The state with another D. -/
def withD (d : Bool) (s : State) : State := { s with p := { s.p with d := d } }

/-- An answer with another D in its state. -/
def Result.withD (d : Bool) : Result → Result
  | .next t => .next (Claims.withD d t)
  | .fault f => .fault f
  | .refused r => .refused r

/-- The host calls that can end the halt or write the CPU's registers: a reset, a ROM load (which resets), a restored CPU
block (60_exceptions.md R573; 10_state.md R65), the construction of another session. -/
def rewritesCpu : HostCall → Bool
  | .cpuReset _ | .deserialize _ _ | .loadRom _ _ _ | .sessionReset _ _ | .stateLoad _ | .construct _ _ _ => true
  | .beginExecution | .endExecution | .requestNmi | .requestIrq | .stepOneInstruction | .sessionStep
  | .startEmulation | .stopEmulation | .setButtons _ _ | .setMirroring _ | .setApuRunning _ | .writeBuffer
  | .destroy => false

/-- The two states hold the same A, X, Y, SP, PC and P. -/
def sameRegs (s t : State) : Prop := t.a = s.a ∧ t.x = s.x ∧ t.y = s.y ∧ t.sp = s.sp ∧ t.pc = s.pc ∧ t.p = s.p

/-- The bank-select addresses this window of this space (60_exceptions.md R563). -/
def addressed (sel : Option BankSelect) (space : BankSpace) (window : Nat) : Bool :=
  match sel with
  | some b => b.space == space && b.window == window
  | none => false

/-- The mnemonics of the read class that can have an operand in memory (30_encoding.md R183). -/
def readers : List Mnemonic := [.lda, .ldx, .ldy, .adc, .sbc, .and, .ora, .eor, .cmp, .cpx, .cpy, .bit, .nop, .lax, .las]

/-- The mnemonics of the write class (R183). -/
def writers : List Mnemonic := [.sta, .stx, .sty, .sax]

/-- The mnemonics of the read-modify-write class (R183). -/
def modifiers : List Mnemonic := [.asl, .lsr, .rol, .ror, .inc, .dec, .slo, .rla, .sre, .rra, .dcp, .isc]

/-- How often a number of dots enters VerticalBlank (60_exceptions.md R551, R554). -/
def vblankEntries : Nat → State → Nat
  | 0, _ => 0
  | k + 1, s =>
    let t := advanceDots 1 s
    (if s.dev.ppu.timing.phase = .postRender ∧ t.dev.ppu.timing.phase = .verticalBlank then 1 else 0) + vblankEntries k t

/-- The call constructs a session. -/
def constructs : HostCall → Bool
  | .construct _ _ _ => true
  | .cpuReset _ | .deserialize _ _ | .loadRom _ _ _ | .sessionReset _ _ | .stateLoad _ | .beginExecution | .endExecution
  | .requestNmi | .requestIrq | .stepOneInstruction | .sessionStep | .startEmulation | .stopEmulation | .setButtons _ _
  | .setMirroring _ | .setApuRunning _ | .writeBuffer | .destroy => false

end Sys2Proof.Claims

open Sys2Proof Sys2Proof.Machine Sys2Proof.Claims

/-- Decoding what an instruction encodes to gives the instruction back, whatever bytes follow (30_encoding.md R161, R162,
R228). All 256 constructors, every operand. That a halting opcode encodes to its one byte is the model's choice (log entry
31). -/
def Obligations.DecodingAnEncodedInstructionGivesItBack : Prop :=
  ∀ (i : Instr) (rest : List Byte), decode (encode i ++ rest) = .ok (i, rest)

/-- Where the decoder answers, the bytes it took are the instruction's encoding: two byte strings never stand for one
instruction (R161, R190). -/
def Obligations.EncodingADecodedInstructionGivesTheBytesBack : Prop :=
  ∀ (bytes : List Byte) (i : Instr) (rest : List Byte), decode bytes = .ok (i, rest) → bytes = encode i ++ rest

/-- The table of R191: every mnemonic, mode and opcode byte it lists, for any operand bytes. -/
def Obligations.OpcodesHaveTheirMnemonicAndMode : Prop :=
  ∀ row ∈ opcodeMap, ∀ form ∈ row.2, ∀ op ∈ form.2, ∀ b1 b2,
    (decodeOp op b1 b2).mnemonic = row.1 ∧ (decodeOp op b1 b2).row.mode = form.1

/-- The decoder is total (00_scope.md R19), no opcode byte is read as another, exactly the 19 values of R226 halt, and the
opcode byte alone fixes the length (R228), which for a halting opcode is 1: no operand byte is fetched. -/
def Obligations.EveryOpcodeByteDecodes : Prop :=
  ∀ op b1 b2, (decodeOp op b1 b2).opcode = op ∧
    ((decodeOp op b1 b2).halts = true ↔ op ∈ haltingOpcodes) ∧
    fetchLength op = (decodeOp op b1 b2).length ∧
    fetchLength op = if op ∈ haltingOpcodes then 1 else (decodeOp op b1 b2).row.mode.length

/-- R162: the length of each of the 13 modes, the operand each makes of the bytes after the opcode, and the bytes in the order
opcode, byte 1, byte 2. -/
def Obligations.OperandBytesFollowTheModeLayout : Prop :=
  [Mode.imp, .acc, .imm, .zp, .zpx, .zpy, .rel, .abs, .absx, .absy, .ind, .indx, .indy].map Mode.length =
      [1, 1, 2, 2, 2, 2, 2, 3, 3, 3, 3, 2, 2] ∧
    ∀ op b1 b2, op ∉ haltingOpcodes →
      (decodeOp op b1 b2).operand = operandOf (decodeOp op b1 b2).row.mode b1 b2 ∧
      encode (decodeOp op b1 b2) = [op, b1, b2].take (decodeOp op b1 b2).row.mode.length

/-- A few instructions of each family, from the rules' own examples (R300 to R442), with the bytes of a following
instruction left over. -/
def Obligations.SampleInstructionsDecode : Prop :=
  [[0xA9, 0x80], [0x8D, 0x00, 0x02], [0x96, 0x10], [0xAA], [0x48], [0x69, 0x50], [0xC9, 0x41], [0xCE, 0x00, 0x03], [0x24, 0x20],
      [0x6E, 0x00, 0x04], [0x6C, 0xFF, 0x10], [0x20, 0x00, 0x90], [0xD0, 0xF9], [0xF8], [0x00], [0x40],
      [0x1C, 0xF0, 0x12], [0xBB, 0x00, 0x03], [0xCB, 0x10], [0x9F]].map (fun bs => (decode (bs ++ [0xEA, 0xEA])).toOption) =
    [Instr.ldaImm 0x80, .staAbs 0x0200, .stxZpy 0x10, .tax, .pha, .adcImm 0x50, .cmpImm 0x41, .decAbs 0x0300, .bitZp 0x20,
      .rorAbs 0x0400, .jmpInd 0x10FF, .jsr 0x9000, .bne 0xF9, .sed, .brk, .rti, .nopAbsx1C 0x12F0, .las 0x0300,
      .axs 0x10, .shaAbsy].map (fun i => some (i, [0xEA, 0xEA]))

/-- R229: every instruction that is not a halting opcode has an assembler line that is well formed and assembles to it; and
the offset the assembler computes for a branch exists exactly when the target is -128 to +127 bytes from the next
instruction, and then the branch goes to the target. That no line names a halting opcode (log entry 31), and that the assembler's
difference is taken mod 2^16 (log entry 44), are the model's choice. -/
def Obligations.AssemblerLinesNameEveryInstruction : Prop :=
  (∀ i : Instr, i.halts = false → i.form.wellFormed = true ∧ i ∈ assembleAll i.form) ∧
    (∀ (at_ target : Word) (b : Byte), branchOffset at_ target = some b → branchTarget (at_ + 2) b = target) ∧
    ∀ (at_ : Word) (b : Byte), branchOffset at_ (branchTarget (at_ + 2) b) = some b

/-- 20_memory.md R103, R107, R108, 60_exceptions.md R561: below $2000 a read gives the RAM byte at the address mod $0800 and
changes nothing and a write changes that byte; at $2000 and above both go to the Bus. That a read there changes the devices alone
and only a write may request an IRQ is the model's choice (log entry 5). -/
def Obligations.MemoryInterfaceSplitsRamFromBus : Prop :=
  ∀ (a : Word) (v : Byte) (s : State),
    (a.toNat < 0x2000 →
      memRead a s = (Memory.read s.ram (a.toNat % 0x800), s) ∧
      memWrite a v s = { s with ram := Memory.write s.ram (a.toNat % 0x800) v } ∧ peek a (memWrite a v s) = v) ∧
    (0x2000 ≤ a.toNat →
      memRead a s = ((busRead s.dev a).1, { s with dev := (busRead s.dev a).2 }) ∧
      memWrite a v s =
        { s with dev := (busWrite s.dev a v).2, irqPending := s.irqPending || (busWrite s.dev a v).1 })

/-- R111: the four addresses a, a + $0800, a + $1000, a + $1800 name one byte; a write through any is read back through all,
and leaves every other RAM byte as it was. -/
def Obligations.RamMirrorsNameOneByte : Prop :=
  ∀ (a b : Word) (v : Byte) (s : State), a.toNat < 0x800 → b.toNat < 0x2000 → ∀ j < 4, ∀ k < 4,
    peek (a + BitVec.ofNat 16 (0x800 * j)) (memWrite (a + BitVec.ofNat 16 (0x800 * k)) v s) = v ∧
    (b.toNat % 0x800 ≠ a.toNat → peek b (memWrite (a + BitVec.ofNat 16 (0x800 * k)) v s) = peek b s)

/-- The model's memories (20_memory.md R111, R113): two memories in canonical form with the same bytes are the same data, and
the dump of R113 restores a memory. The canonical form and what an unlisted byte reads as are the model's choice (log entries 2
and 3). -/
def Obligations.EqualMemoriesAreEqualData : Prop :=
  (∀ (size : Nat) (m k : Memory), Memory.wf size m = true → Memory.wf size k = true →
      (∀ a, Memory.read m a = Memory.read k a) → m = k) ∧
    ∀ (size : Nat) (m : Memory), Memory.wf size m = true → Memory.ofBytes size (Memory.toBytes size m) = m

/-- 60_exceptions.md R562, for CPU addresses: with one bank both windows show it, with two the first shows bank 0 and the
second bank 1, a write at $8000 and above changes nothing, and PPU $0000-$1FFF shows the one CHR bank. That a read there changes
nothing either, and that neither is recorded in the history of events, is the model's reading (log entry 6). -/
def Obligations.MapperZeroShowsFixedBanks : Prop :=
  ∀ (s : State) (c : Cartridge) (a : Word), s.dev.cart = some c → c.mapperId = 0 → Cartridge.wf c = true →
    0x8000 ≤ a.toNat →
      (∀ v, memWrite a v s = s) ∧ (memRead a s).2 = s ∧
      c.prg[(a.toNat - 0x8000) % (16384 * c.prgBanks)]? = some (peek a s) ∧
      (c.prgBanks = 1 → c.prg[(a.toNat - 0x8000) % 16384]? = some (peek a s)) ∧
      (c.prgBanks = 2 → a.toNat < 0xC000 → c.prg[a.toNat - 0x8000]? = some (peek a s)) ∧
      (c.prgBanks = 2 → 0xC000 ≤ a.toNat → c.prg[16384 + (a.toNat - 0xC000)]? = some (peek a s)) ∧
      (c.chrBanks = 1 → ∀ k < 0x2000, c.chr[k]? = some (patternRead s.dev k))

/-- R563: a bus write changes the visible bank of the window its bank-select addresses and of no other, in either table: the
addressed window is the model's own expression for it, and every other window keeps its bank. With no cartridge, and with mapper 0,
which has no bank-select (R562), every window keeps its bank. That the free Bus answers with at most one bank-select is the model's
reading of R563 (log entry 5). -/
def Obligations.BankSelectChangesOneWindow : Prop :=
  ∀ (d : Devices) (a : Word) (v : Byte),
    let sel := (Config.busReply d (.write a v)).mapper.select
    let t := (busWrite d a v).2.mapper
    (∀ k, addressed sel .prg k = false → t.prgTable[k]? = d.mapper.prgTable[k]?) ∧
    (∀ k, addressed sel .chr k = false → t.chrTable[k]? = d.mapper.chrTable[k]?) ∧
    ((∀ c, d.cart = some c → c.mapperId = 0) → t.prgTable = d.mapper.prgTable ∧ t.chrTable = d.mapper.chrTable) ∧
    ∀ c, d.cart = some c → c.mapperId ≠ 0 →
      (∀ k < d.mapper.prgTable.length,
        t.prgTable[k]? = if addressed sel .prg k then sel.map BankSelect.bank else d.mapper.prgTable[k]?) ∧
      ∀ k < d.mapper.chrTable.length,
        t.chrTable[k]? = if addressed sel .chr k then sel.map BankSelect.bank else d.mapper.chrTable[k]?

/-- R127: the physical table behind each of the four logical nametables under each mirroring mode, for every offset in them. Which
cells stand for the tables is the model's choice (log entry 17). -/
def Obligations.MirroringModesShareTables : Prop :=
  ∀ k < 0x400, ∀ j < 0x400,
    (vramIndex .horizontal (0x2000 + k) = vramIndex .horizontal (0x2400 + k) ∧
      vramIndex .horizontal (0x2800 + k) = vramIndex .horizontal (0x2C00 + k) ∧
      vramIndex .horizontal (0x2000 + k) ≠ vramIndex .horizontal (0x2800 + j)) ∧
    (vramIndex .vertical (0x2000 + k) = vramIndex .vertical (0x2800 + k) ∧
      vramIndex .vertical (0x2400 + k) = vramIndex .vertical (0x2C00 + k) ∧
      vramIndex .vertical (0x2000 + k) ≠ vramIndex .vertical (0x2400 + j)) ∧
    (∀ t < 4, vramIndex .singleScreen (0x2000 + 0x400 * t + k) = vramIndex .singleScreen (0x2000 + k)) ∧
    ∀ t < 4, ∀ u < 4, t ≠ u →
      vramIndex .fourScreen (0x2000 + 0x400 * t + k) ≠ vramIndex .fourScreen (0x2000 + 0x400 * u + j)

/-- R117: a push writes at $0100 + SP and then decrements SP mod 2^8, a pull increments SP mod 2^8 and then reads there;
nothing else changes, no other RAM byte changes, and SP wraps inside the page at both ends. -/
def Obligations.StackGrowsDownInPageOne : Prop :=
  ∀ (v : Byte) (s : State),
    (∃ ram, push v s = { s with ram := ram, sp := BitVec.ofNat 8 ((s.sp.toNat + 255) % 256) } ∧
      Memory.read ram (0x100 + s.sp.toNat) = v ∧
      ∀ k, k ≠ 0x100 + s.sp.toNat → Memory.read ram k = Memory.read s.ram k) ∧
    pull s = (Memory.read s.ram (0x100 + (s.sp.toNat + 1) % 256), { s with sp := BitVec.ofNat 8 ((s.sp.toNat + 1) % 256) }) ∧
    (s.sp = 0x00 → peek 0x0100 (push v s) = v ∧ (push v s).sp = 0xFF) ∧
    (s.sp = 0xFF → (pull s).1 = peek 0x0100 s ∧ (pull s).2.sp = 0x00)

/-- R107, R183, R184, with no cartridge loaded: each access of an instruction at a device address is one event of the history, in
the order written, whatever the mode. The read class reads its effective address once; the write class writes it once with no read;
the read-modify-write class reads it once and then writes it once; an indirect jump reads its two pointer bytes, the low one first;
BRK reads its vector; and nothing else is accessed. The history of events is the model's own field (log entry 4). -/
def Obligations.DeviceAccessesHappenOnceInOrder : Prop :=
  (∀ (i : Instr) (m : MemOperand) (s : State), s.dev.cart = none → i.operand = .memory m → m.mode ≠ .ind →
      ∃ t, exec i s = .next t ∧
        let ea := (effAddr m s).addr
        (ea.toNat < 0x2000 → t.dev.events = s.dev.events) ∧
        (0x2000 ≤ ea.toNat →
          (i.mnemonic ∈ readers → t.dev.events = .read ea :: s.dev.events) ∧
          (i.mnemonic ∈ writers → ∃ v, t.dev.events = .write ea v :: s.dev.events) ∧
          (i.mnemonic ∈ modifiers → ∃ v, t.dev.events = .write ea v :: .read ea :: s.dev.events) ∧
          (i.mnemonic = .jmp ∨ i.mnemonic = .jsr → t.dev.events = s.dev.events))) ∧
    (∀ (i : Instr) (s : State), (∀ m, i.operand ≠ .memory m) → i.mnemonic ≠ .brk →
      ∃ t, exec i s = .next t ∧ t.dev.events = s.dev.events) ∧
    ∀ (w : Word) (s : State), s.dev.cart = none →
      (∃ t, exec .brk s = .next t ∧ t.dev.events = .read 0xFFFF :: .read 0xFFFE :: s.dev.events) ∧
      (w.toNat < 0x2000 → ∃ t, exec (.jmpInd w) s = .next t ∧ t.dev.events = s.dev.events) ∧
      (0x2000 ≤ w.toNat →
        (∃ t, exec (.staAbs w) s = .next t ∧ t.dev.events = .write w s.a :: s.dev.events) ∧
        (∃ t, exec (.incAbs w) s = .next t ∧ t.dev.events = .write w (peek w s + 1) :: .read w :: s.dev.events) ∧
        ∃ t, exec (.jmpInd w) s = .next t ∧
          t.dev.events = .read (word (hi8 w) (lo8 w + 1)) :: .read w :: s.dev.events)

/-- 10_state.md R58: the byte of P bit by bit, and the six flags of a byte. -/
def Obligations.StatusBytePacksSixFlags : Prop :=
  (∀ (b : Bool) (p : Flags),
      (List.range 8).map (packP b p).getLsbD = [p.c, p.z, p.i, p.d, b, true, p.v, p.n]) ∧
    ∀ v : Byte, unpackP v =
      { n := v.getLsbD 7, v := v.getLsbD 6, d := v.getLsbD 3, i := v.getLsbD 2, z := v.getLsbD 1, c := v.getLsbD 0 }

/-- R173 to R181: the effective address of each mode as a number, the pointer bytes it reads, and whether it crosses a page.
Only the indirect mode can reach a device; every other leaves the state as it is. -/
def Obligations.EffectiveAddressesFollowTheModes : Prop :=
  ∀ (b : Byte) (w : Word) (s : State),
    let zp := fun n : Nat => peek (BitVec.ofNat 16 (n % 256)) s
    let pair := fun n : Nat => (zp (n + 1)).toNat * 256 + (zp n).toNat
    let indexed := fun (base : Nat) (index : Byte) (e : EffAddr) =>
      e.addr.toNat = (base + index.toNat) % 65536 ∧ (e.cross = true ↔ base / 256 ≠ e.addr.toNat / 256) ∧ e.state = s
    ((effAddr (.zp b) s).addr.toNat = b.toNat ∧ (effAddr (.zp b) s).cross = false ∧ (effAddr (.zp b) s).state = s) ∧
    ((effAddr (.zpx b) s).addr.toNat = (b.toNat + s.x.toNat) % 256 ∧ (effAddr (.zpx b) s).cross = false ∧
      (effAddr (.zpx b) s).state = s) ∧
    ((effAddr (.zpy b) s).addr.toNat = (b.toNat + s.y.toNat) % 256 ∧ (effAddr (.zpy b) s).cross = false ∧
      (effAddr (.zpy b) s).state = s) ∧
    ((effAddr (.indx b) s).addr.toNat = pair (b.toNat + s.x.toNat) ∧ (effAddr (.indx b) s).cross = false ∧
      (effAddr (.indx b) s).state = s) ∧
    indexed (pair b.toNat) s.y (effAddr (.indy b) s) ∧
    (effAddr (.abs w) s = ⟨w, false, s⟩) ∧
    indexed w.toNat s.x (effAddr (.absx w) s) ∧
    indexed w.toNat s.y (effAddr (.absy w) s) ∧
    let lo := memRead w s
    let hi := memRead (BitVec.ofNat 16 (w.toNat / 256 * 256 + (w.toNat + 1) % 256)) lo.2
    (effAddr (.ind w) s).addr.toNat = hi.1.toNat * 256 + lo.1.toNat ∧ (effAddr (.ind w) s).state = hi.2

/-- 40_load_store.md R300 to R302: LDA, LDX and LDY, every form. -/
def Obligations.LoadsMoveTheOperandIntoARegister : Prop :=
  ReadsTo ldaEncodings (fun m s => { s with a := m, p := nz m s.p }) ∧
    ReadsTo ldxEncodings (fun m s => { s with x := m, p := nz m s.p }) ∧
    ReadsTo ldyEncodings (fun m s => { s with y := m, p := nz m s.p })

/-- R303 to R305 and 49_undocumented.md R426: STA, STX, STY and SAX, every form. -/
def Obligations.StoresWriteTheRegisterAtTheAddress : Prop :=
  WritesTo staEncodings (fun s => s.a) ∧ WritesTo stxEncodings (fun s => s.x) ∧ WritesTo styEncodings (fun s => s.y) ∧
    WritesTo saxEncodings (fun s => s.a &&& s.x)

/-- 41_transfer.md R310 to R315: TAX, TAY, TXA, TYA, TSX, TXS. -/
def Obligations.TransfersCopyOneRegister : Prop :=
  OneByte 0xAA 2 (fun s => { s with x := s.a, p := nz s.a s.p }) ∧
    OneByte 0xA8 2 (fun s => { s with y := s.a, p := nz s.a s.p }) ∧
    OneByte 0x8A 2 (fun s => { s with a := s.x, p := nz s.x s.p }) ∧
    OneByte 0x98 2 (fun s => { s with a := s.y, p := nz s.y s.p }) ∧
    OneByte 0xBA 2 (fun s => { s with x := s.sp, p := nz s.sp s.p }) ∧
    OneByte 0x9A 2 (fun s => { s with sp := s.x })

/-- 42_stack.md R320 to R323: PHA, PHP, PLA, PLP. -/
def Obligations.StackInstructionsPushAndPull : Prop :=
  OneByte 0x48 3 (fun s => push s.a s) ∧ OneByte 0x08 3 (fun s => push (packP true s.p) s) ∧
    OneByte 0x68 4 (fun s => { (pull s).2 with a := (pull s).1, p := nz (pull s).1 s.p }) ∧
    OneByte 0x28 4 (fun s =>
      { (pull s).2 with
        p :=
          { n := (pull s).1.getLsbD 7
            v := (pull s).1.getLsbD 6
            d := (pull s).1.getLsbD 3
            i := (pull s).1.getLsbD 2
            z := (pull s).1.getLsbD 1
            c := (pull s).1.getLsbD 0 } })

/-- 43_arithmetic.md R330, R331, R333, R334, R335 and 49_undocumented.md R434: ADC and SBC, every form, the undocumented $EB
among them, whatever D holds; and SBC M is ADC (~M). -/
def Obligations.AdcAndSbcAreOneBinaryAdder : Prop :=
  ReadsTo adcEncodings adc ∧ ReadsTo sbcEncodings sbc ∧ ReadsTo sbcUndocEncodings sbc ∧
    ∀ (m : Byte) (s : State), sbc m s = adc (~~~m) s

/-- R332: every ADC read as unsigned and as signed. -/
def Obligations.AdcIsUnsignedAndSignedAddition : Prop :=
  ∀ e ∈ adcEncodings, ∀ b1 b2 s, ∃ t, exec (decodeOp e.opcode b1 b2) s = .next t ∧
    let m := (e.got b1 b2 s).value
    let signedSum := signed8 s.a + signed8 m + (s.p.c.toNat : Int)
    t.a.toNat = (s.a.toNat + m.toNat + s.p.c.toNat) % 256 ∧
    (t.p.c = true ↔ 256 ≤ s.a.toNat + m.toNat + s.p.c.toNat) ∧
    (t.p.v = true ↔ ¬(-128 ≤ signedSum ∧ signedSum ≤ 127)) ∧
    (t.p.v = false → signed8 t.a = signedSum)

/-- R333's comments on C and V: every SBC is a subtraction with borrow, C = 1 exactly when there was none, and V says the signed
difference does not fit. -/
def Obligations.SbcIsSubtractionWithBorrow : Prop :=
  ∀ e ∈ sbcEncodings ++ sbcUndocEncodings, ∀ b1 b2 s, ∃ t, exec (decodeOp e.opcode b1 b2) s = .next t ∧
    let m := (e.got b1 b2 s).value
    let borrow := 1 - s.p.c.toNat
    let signedDiff := signed8 s.a - signed8 m - (borrow : Int)
    (t.a.toNat : Int) = ((s.a.toNat : Int) - m.toNat - borrow) % 256 ∧
    (t.p.c = true ↔ m.toNat + borrow ≤ s.a.toNat) ∧
    (t.p.v = ((s.a ^^^ m) &&& (s.a ^^^ t.a)).getLsbD 7) ∧
    (t.p.v = true ↔ ¬(-128 ≤ signedDiff ∧ signedDiff ≤ 127))

/-- R336 to R339: CMP, CPX, CPY, every form. -/
def Obligations.ComparesSetCarryZeroAndNegative : Prop :=
  ReadsTo cmpEncodings (fun m s => compareBytes s.a m s) ∧ ReadsTo cpxEncodings (fun m s => compareBytes s.x m s) ∧
    ReadsTo cpyEncodings (fun m s => compareBytes s.y m s)

/-- 44_incdec.md R345 to R350: INC and DEC, every form, and INX, INY, DEX, DEY, as numbers mod 2^8. -/
def Obligations.IncrementsAndDecrementsWrap : Prop :=
  let up := fun v : Byte => BitVec.ofNat 8 ((v.toNat + 1) % 256)
  let down := fun v : Byte => BitVec.ofNat 8 ((v.toNat + 255) % 256)
  ModifiesTo incEncodings (fun v _ => up v) (fun _ r s => { s with p := nz r s.p }) ∧
    ModifiesTo decEncodings (fun v _ => down v) (fun _ r s => { s with p := nz r s.p }) ∧
    OneByte 0xE8 2 (fun s => { s with x := up s.x, p := nz (up s.x) s.p }) ∧
    OneByte 0xC8 2 (fun s => { s with y := up s.y, p := nz (up s.y) s.p }) ∧
    OneByte 0xCA 2 (fun s => { s with x := down s.x, p := nz (down s.x) s.p }) ∧
    OneByte 0x88 2 (fun s => { s with y := down s.y, p := nz (down s.y) s.p })

/-- 45_logical.md R355 to R358: AND, ORA, EOR and BIT, every form. -/
def Obligations.LogicalInstructionsCombineBits : Prop :=
  ReadsTo andEncodings (fun m s => { s with a := s.a &&& m, p := nz (s.a &&& m) s.p }) ∧
    ReadsTo oraEncodings (fun m s => { s with a := s.a ||| m, p := nz (s.a ||| m) s.p }) ∧
    ReadsTo eorEncodings (fun m s => { s with a := s.a ^^^ m, p := nz (s.a ^^^ m) s.p }) ∧
    ReadsTo bitEncodings (fun m s =>
      { s with p := { s.p with n := m.getLsbD 7, v := m.getLsbD 6, z := decide (s.a &&& m = 0) } })

/-- 46_shift.md R365 to R368: ASL, LSR, ROL, ROR, on A and in memory, every form. -/
def Obligations.ShiftsMoveOneBitThroughCarry : Prop :=
  ShiftsTo aslEncodings double (fun v => v.getLsbD 7) ∧ ShiftsTo lsrEncodings halve (fun v => v.getLsbD 0) ∧
    ShiftsTo rolEncodings rollLeft (fun v => v.getLsbD 7) ∧ ShiftsTo rorEncodings rollRight (fun v => v.getLsbD 0)

/-- 47_control.md R375 to R377 with 30_encoding.md R178: JMP absolute and indirect, JSR and RTS. -/
def Obligations.JumpsCallsAndReturns : Prop :=
  ∀ b1 b2 s,
    exec (decodeOp 0x4C b1 b2) s = .next { s with pc := word b2 b1, cycles := some 3 } ∧
    (let lo := memRead (word b2 b1) (start 3 s)
     let hi := memRead (word b2 (BitVec.ofNat 8 ((b1.toNat + 1) % 256))) lo.2
     exec (decodeOp 0x6C b1 b2) s = .next { hi.2 with pc := word hi.1 lo.1, cycles := some 5 }) ∧
    (let ret := s.pc + 2
     exec (decodeOp 0x20 b1 b2) s =
      .next { push (lo8 ret) (push (hi8 ret) s) with pc := word b2 b1, cycles := some 6 }) ∧
    (let lo := pull s
     let hi := pull lo.2
     exec (decodeOp 0x60 b1 b2) s = .next { hi.2 with pc := word hi.1 lo.1 + 1, cycles := some 6 })

/-- R376 to R378: a return right after a call goes to the instruction after the JSR, and leaves SP as before the call, from any
SP. -/
def Obligations.ReturnGoesBackBehindTheCall : Prop :=
  ∀ (w : Word) (s : State), ∃ t u, exec (.jsr w) s = .next t ∧ t.pc = w ∧ exec .rts t = .next u ∧
    u.pc = s.pc + 3 ∧ u.sp = s.sp ∧ u.a = s.a ∧ u.x = s.x ∧ u.y = s.y ∧ u.p = s.p

/-- R385 to R393 with 30_encoding.md R182: the eight branches, taken and not taken, with their three counts. -/
def Obligations.BranchesTestOneFlag : Prop :=
  ∀ br ∈ branches, ∀ b1 b2 s,
    let next := s.pc + 2
    let target := next + sext b1
    exec (decodeOp br.1 b1 b2) s =
      if br.2 s.p then
        .next { s with pc := target, cycles := some (if next.toNat / 256 = target.toNat / 256 then 3 else 4) }
      else .next { s with pc := next, cycles := some 2 }

/-- 48_flags_system.md R400 to R406 and R408: the seven flag instructions and NOP. -/
def Obligations.FlagInstructionsSetOneFlag : Prop :=
  OneByte 0x18 2 (fun s => { s with p := { s.p with c := false } }) ∧
    OneByte 0x38 2 (fun s => { s with p := { s.p with c := true } }) ∧
    OneByte 0x58 2 (fun s => { s with p := { s.p with i := false } }) ∧
    OneByte 0x78 2 (fun s => { s with p := { s.p with i := true } }) ∧
    OneByte 0xD8 2 (fun s => { s with p := { s.p with d := false } }) ∧
    OneByte 0xF8 2 (fun s => { s with p := { s.p with d := true } }) ∧
    OneByte 0xB8 2 (fun s => { s with p := { s.p with v := false } }) ∧
    OneByte 0xEA 2 (fun s => s)

/-- R409 and R410 with 60_exceptions.md R523: BRK pushes PC of BRK + 2, high byte first, and P with B = 1, sets I, and takes PC
from $FFFE, whatever I holds; RTI pulls P and then PC. -/
def Obligations.BrkEntersAndRtiReturns : Prop :=
  ∀ b1 b2 s,
    (let ret := s.pc + 2
     let t := push (packP true s.p) (push (lo8 ret) (push (hi8 ret) s))
     let lo := memRead 0xFFFE { t with p := { t.p with i := true } }
     let hi := memRead 0xFFFF lo.2
     exec (decodeOp 0x00 b1 b2) s = .next { hi.2 with pc := word hi.1 lo.1, cycles := some 7 }) ∧
    (let v := pull s
     let lo := pull v.2
     let hi := pull lo.2
     exec (decodeOp 0x40 b1 b2) s = .next { hi.2 with p := unpackP v.1, pc := word hi.1 lo.1, cycles := some 6 })

/-- 49_undocumented.md R421, R427, R430 to R433, R435: the NOP forms, LAX, ANC, ALR, ARR, AXS, LAS, every form. -/
def Obligations.UndocumentedReadsHaveTheirEffects : Prop :=
  ReadsTo nopUndocEncodings (fun _ s => s) ∧
    ReadsTo laxEncodings (fun m s => { s with a := m, x := m, p := nz m s.p }) ∧
    ReadsTo ancEncodings (fun m s =>
      { s with a := s.a &&& m, p := nz (s.a &&& m) { s.p with c := (s.a &&& m).getLsbD 7 } }) ∧
    ReadsTo alrEncodings (fun m s =>
      let r := halve (s.a &&& m) s.p.c
      { s with a := r, p := nz r { s.p with c := (s.a &&& m).getLsbD 0 } }) ∧
    ReadsTo arrEncodings (fun m s =>
      let r := rollRight (s.a &&& m) s.p.c
      { s with a := r, p := nz r { s.p with c := r.getLsbD 6, v := r.getLsbD 6 ^^ r.getLsbD 5 } }) ∧
    ReadsTo axsEncodings (fun m s =>
      let t := s.a &&& s.x
      let r := BitVec.ofNat 8 ((256 + t.toNat - m.toNat) % 256)
      { s with x := r, p := nz r { s.p with c := decide (m.toNat ≤ t.toNat) } }) ∧
    ReadsTo lasEncodings (fun m s =>
      { s with a := m &&& s.sp, x := m &&& s.sp, sp := m &&& s.sp, p := nz (m &&& s.sp) s.p })

/-- R422 to R425, R428, R429: SLO, RLA, SRE, RRA, DCP, ISC, every form. -/
def Obligations.CombinedInstructionsModifyThenCombine : Prop :=
  ModifiesTo sloEncodings double (fun v r s =>
      { s with a := s.a ||| r, p := nz (s.a ||| r) { s.p with c := v.getLsbD 7 } }) ∧
    ModifiesTo rlaEncodings rollLeft (fun v r s =>
      { s with a := s.a &&& r, p := nz (s.a &&& r) { s.p with c := v.getLsbD 7 } }) ∧
    ModifiesTo sreEncodings halve (fun v r s =>
      { s with a := s.a ^^^ r, p := nz (s.a ^^^ r) { s.p with c := v.getLsbD 0 } }) ∧
    ModifiesTo rraEncodings rollRight (fun v r s => adc r { s with p := { s.p with c := v.getLsbD 0 } }) ∧
    ModifiesTo dcpEncodings (fun v _ => BitVec.ofNat 8 ((v.toNat + 255) % 256)) (fun _ r s => compareBytes s.a r s) ∧
    ModifiesTo iscEncodings (fun v _ => BitVec.ofNat 8 ((v.toNat + 1) % 256)) (fun _ r s => sbc r s)

/-- R436 to R442 with 60_exceptions.md R500 and 30_encoding.md R226: each of the 19 halting opcodes sets `halted` and changes nothing
else. That the outcome `Halt` is a next state with no count is the model's choice (log entry 7). -/
def Obligations.HaltingOpcodesChangeOnlyHalted : Prop :=
  ∀ op ∈ haltingOpcodes, ∀ b1 b2 s, exec (decodeOp op b1 b2) s = .next { s with halted := true, cycles := none }

/-- 10_state.md R53, the column "written by": an instruction that R53 does not list for a register leaves the register as it
is. -/
def Obligations.RegistersHaveOnlyTheirWriters : Prop :=
  ∀ (i : Instr) (s : State), ∃ t, exec i s = .next t ∧
    (i.mnemonic ∉ writersOfA → (i.mnemonic ∉ shifts ∨ i.operand ≠ .accumulator) → t.a = s.a) ∧
    (i.mnemonic ∉ writersOfX → t.x = s.x) ∧ (i.mnemonic ∉ writersOfY → t.y = s.y) ∧
    (i.mnemonic ∉ writersOfSp → t.sp = s.sp)

/-- R57, the column "written by": an instruction that R57 does not list for a flag leaves the flag as it is. -/
def Obligations.FlagsHaveOnlyTheirWriters : Prop :=
  ∀ (i : Instr) (s : State), ∃ t, exec i s = .next t ∧
    (i.mnemonic ∉ writersOfNZ → t.p.n = s.p.n ∧ t.p.z = s.p.z) ∧ (i.mnemonic ∉ writersOfV → t.p.v = s.p.v) ∧
    (i.mnemonic ∉ writersOfD → t.p.d = s.p.d) ∧ (i.mnemonic ∉ writersOfI → t.p.i = s.p.i) ∧
    (i.mnemonic ∉ writersOfC → t.p.c = s.p.c)

/-- R183: an instruction that neither stores at its effective address nor pushes leaves RAM as it is. Every address reads as
before where the instruction's own reads changed no device, and always where it has no operand in memory. -/
def Obligations.InstructionsThatStoreNothingKeepMemory : Prop :=
  ∀ (i : Instr) (s : State), (∀ m, ¬ storesAt i m) → pushes i = 0 → ∃ t, exec i s = .next t ∧ t.ram = s.ram ∧
    (t.dev.events = s.dev.events → ∀ a, peek a t = peek a s) ∧
    ((∀ m, i.operand ≠ .memory m) → ∀ a, peek a t = peek a s)

/-- R183: an instruction that stores at its effective address changes the one byte there: every RAM address that does not name
that byte reads as before, and so does every other address where the instruction's accesses changed no device. -/
def Obligations.StoresChangeOneByte : Prop :=
  ∀ (i : Instr) (m : MemOperand) (s : State), storesAt i m → ∃ t, exec i s = .next t ∧
    let ea := (effAddr m (advancePc i.length s)).addr
    (∀ a, a.toNat < 0x2000 → ramByte a ≠ ramByte ea → peek a t = peek a s) ∧
    (t.dev.events = s.dev.events → ∀ a, (ramByte a = none ∨ ramByte a ≠ ramByte ea) → peek a t = peek a s)

/-- 20_memory.md R117: PHA, PHP, JSR and BRK change only the one, one, two or three bytes from $0100 + SP downward: every other
RAM address reads as before, and every address above RAM too where BRK's vector reads changed no device. -/
def Obligations.PushesChangeOnlyTheirStackBytes : Prop :=
  ∀ (i : Instr) (s : State), 0 < pushes i → ∃ t, exec i s = .next t ∧
    t.sp = s.sp - BitVec.ofNat 8 (pushes i) ∧
    ∀ a, (a.toNat < 0x2000 ∨ t.dev.events = s.dev.events) →
      (∀ k < pushes i, ramByte a ≠ some (0x100 + (s.sp - BitVec.ofNat 8 k).toNat)) → peek a t = peek a s

/-- 10_state.md R62, R65: no instruction changes `running`, the pending NMI, the session or the cartridge; `halted` changes only
by a halting opcode; an IRQ that is pending stays pending; and the devices change, with the history lengthened, only by an
access at $2000 or above. What such an access can change is the model's frame of the free Bus (log entry 5). -/
def Obligations.InstructionsLeaveTheRestOfTheMachine : Prop :=
  ∀ (i : Instr) (s : State), ∃ t, exec i s = .next t ∧
    t.running = s.running ∧ t.nmiPending = s.nmiPending ∧ t.session = s.session ∧
    t.halted = (s.halted || i.halts) ∧ (s.irqPending = true → t.irqPending = true) ∧
    s.dev.events <:+ t.dev.events ∧
    (t.dev.events = s.dev.events → t.dev = s.dev ∧ t.irqPending = s.irqPending) ∧
    t.dev.cart = s.dev.cart ∧ t.dev.pad1 = s.dev.pad1 ∧ t.dev.pad2 = s.dev.pad2 ∧
    t.dev.ppu.timing = s.dev.ppu.timing ∧ t.dev.ppu.pixels = s.dev.ppu.pixels ∧
    t.dev.apu.running = s.dev.apu.running ∧ t.dev.apu.output = s.dev.apu.output ∧
    t.dev.apu.clock = s.dev.apu.clock

/-- R55, 30_encoding.md R163: an instruction of n bytes that transfers no control leaves PC = p + n mod 2^16, and a halting
opcode leaves PC at p. -/
def Obligations.PcAdvancesByTheLength : Prop :=
  ∀ (i : Instr) (s : State), i.mnemonic ∉ transfers → ∃ t, exec i s = .next t ∧
    t.pc.toNat = if i.halts then s.pc.toNat else (s.pc.toNat + i.row.mode.length) % 65536

/-- 70_reset_and_hazards.md R620 with 95_test_vectors.md X6: a step that completes with a count took at least 2 and at most 15
cycles, at least 9 when it entered an interrupt; a step has no count exactly when it halts. -/
def Obligations.StepsTakeTwoToFifteenCycles : Prop :=
  ∀ s t, step s = .next t →
    (t.cycles = none ↔ t.halted = true) ∧
    ∀ n, t.cycles = some n → 2 ≤ n ∧ n ≤ 15 ∧ (quiet s → n ≤ 8) ∧ (¬ quiet s → 9 ≤ n)

/-- 30_encoding.md R160: the step, read off the rule's pseudocode. `NoStep` is the fault noStep, `Halt` a next state with no
count (log entry 7). -/
def Obligations.StepFollowsTheInstructionCycle : Prop :=
  ∀ s : State, step s =
    if s.running = false ∨ s.halted = true then .fault .noStep
    else
      let polled : Nat × State :=
        if s.nmiPending = true then (7, enterInterrupt 0xFFFA s.pc false { s with nmiPending := false })
        else if s.irqPending = true ∧ s.p.i = false then
          (7, enterInterrupt 0xFFFE s.pc false { s with irqPending := false })
        else (0, s)
      let p := polled.2.pc
      let op := memRead p polled.2
      if op.1 ∈ haltingOpcodes then .next { op.2 with halted := true, cycles := none }
      else
        let n := (decodeOp op.1 0 0).row.mode.length
        let b1 := if 2 ≤ n then memRead (p + 1) op.2 else (0, op.2)
        let b2 := if n = 3 then memRead (p + 2) b1.2 else (0, b1.2)
        match exec (decodeOp op.1 b1.1 b2.1) b2.2 with
        | .next t => .next { t with cycles := t.cycles.map (fun c => polled.1 + c) }
        | .fault f => .fault f
        | .refused r => .refused r

/-- R160, 20_memory.md R124: when the bytes at PC decode to an instruction whose bytes stand where reads change no device (RAM,
or a fixed bank), a step that enters no interrupt is exec of it at that state: nothing is added around exec, and PC still
stands at the opcode byte when exec starts. -/
def Obligations.StepRunsTheDecodedInstruction : Prop :=
  ∀ (s : State) (i : Instr) (rest : List Byte), s.running = true → s.halted = false → quiet s →
    (∀ k < i.length, (memRead (s.pc + BitVec.ofNat 16 k) s).2 = s) →
    decode [peek s.pc s, peek (s.pc + 1) s, peek (s.pc + 2) s] = .ok (i, rest) → step s = exec i s

/-- 60_exceptions.md R519 to R521, R517, R511: an entry pushes PC high byte first and P with B = 0, sets I, takes PC from the
vector and changes no other register; at a poll NMI goes before IRQ and leaves the IRQ pending, and an IRQ is entered only
with I = 0. -/
def Obligations.InterruptEntryPushesAndVectors : Prop :=
  (∀ (vector : Word) (s : State),
      let t := enterInterrupt vector s.pc false s
      (∃ u, u.ram = t.ram ∧ u.dev = s.dev ∧ t.pc = (read16 vector u).1 ∧ t.dev = (read16 vector u).2.dev) ∧
      t.sp = s.sp - 3 ∧ t.p = { s.p with i := true } ∧ t.a = s.a ∧ t.x = s.x ∧ t.y = s.y ∧
      peek (0x0100 + zext16 s.sp) t = hi8 s.pc ∧ peek (0x0100 + zext16 (s.sp - 1)) t = lo8 s.pc ∧
      peek (0x0100 + zext16 (s.sp - 2)) t = packP false s.p ∧
      ∀ k, (∀ j < 3, k ≠ 0x100 + (s.sp - BitVec.ofNat 8 j).toNat) → Memory.read t.ram k = Memory.read s.ram k) ∧
    ∀ s : State,
      (s.nmiPending = true →
        poll s = (7, enterInterrupt 0xFFFA s.pc false { s with nmiPending := false }) ∧
        (poll s).2.irqPending = s.irqPending ∧ (poll s).2.nmiPending = false) ∧
      (s.nmiPending = false → s.irqPending = true → s.p.i = false →
        poll s = (7, enterInterrupt 0xFFFE s.pc false { s with irqPending := false }) ∧ (poll s).2.irqPending = false) ∧
      (quiet s → poll s = (0, s))

/-- R522, R530, 48_flags_system.md R410: RTI right after an interrupt entry or a BRK goes back: to the first instruction not
executed, for BRK to the byte after its signature byte, with all six flags, SP and the registers as before, from any SP. -/
def Obligations.RtiUndoesAnInterruptEntry : Prop :=
  (∀ (vector : Word) (b : Bool) (s : State), ∃ u, exec .rti (enterInterrupt vector s.pc b s) = .next u ∧
      u.pc = s.pc ∧ u.p = s.p ∧ u.sp = s.sp ∧ u.a = s.a ∧ u.x = s.x ∧ u.y = s.y) ∧
    ∀ s : State, ∃ t u, exec .brk s = .next t ∧ exec .rti t = .next u ∧
      u.pc = s.pc + 2 ∧ u.p = s.p ∧ u.sp = s.sp ∧ u.a = s.a ∧ u.x = s.x ∧ u.y = s.y

/-- R500, R582, 10_state.md R62: a halted CPU has no step, and whatever the host does short of a reset, a ROM load, a restored
state or another session leaves it halted, with its registers, and with its RAM unless the session is destroyed (20_memory.md
R113). -/
def Obligations.HaltLastsUntilReset : Prop :=
  ∀ (calls : List HostCall) (s t : State), s.halted = true → (∀ c ∈ calls, rewritesCpu c = false) →
    runCalls calls s = .next t →
      t.halted = true ∧ isRunning t = false ∧ step t = .fault .noStep ∧ sameRegs s t ∧
      (.destroy ∉ calls → t.ram = s.ram)

/-- 10_state.md R65: only the CPU step, a reset and a restored state write the CPU's registers: every other host call leaves
them as they are, and leaves RAM too unless it is the teardown, which destroys it (20_memory.md R113). -/
def Obligations.OnlyTheStepWritesRegisters : Prop :=
  ∀ (c : HostCall) (s t : State), rewritesCpu c = false → c ≠ .stepOneInstruction → c ≠ .sessionStep →
    hostCall c s = .next t → sameRegs s t ∧ t.halted = s.halted ∧ (c ≠ .destroy → t.ram = s.ram)

/-- Every step keeps the invariant, from every state that has it: the memories stay in canonical form within their sizes, and
the devices well formed, the PPU at a place of its frame (20_memory.md R111, R101, R102; 60_exceptions.md R550, R552, R554, R569). The
canonical form and the frame's layout are the model's (log entries 2, 3 and 13). -/
def Obligations.StepKeepsTheMachineInForm : Prop :=
  ∀ s t : State, s.Inv → step s = .next t → t.Inv

/-- The invariant holds in the state after reset. What its memories and devices hold is the model's choice (log entries 2, 3
and 12). -/
def Obligations.ResetStateIsInForm : Prop := State.Inv State.reset

/-- Every host call keeps the invariant: session steps with their PPU and APU advances, ROM loads, resets, restored states, teardown
and construction (60_exceptions.md R570 to R573, 20_memory.md R113). -/
def Obligations.HostCallsKeepTheMachineInForm : Prop :=
  ∀ (c : HostCall) (s t : State), s.Inv → hostCall c s = .next t → t.Inv

/-- 10_state.md R60, 43_arithmetic.md R331, R334: D is read by pushes of P alone. Every instruction but PHP and BRK, run with
another D, gives the same next state with that D, or, where it writes D, the very same next state. -/
def Obligations.DecimalFlagReachesOnlyPushes : Prop :=
  ∀ (i : Instr) (d : Bool) (s : State), i.mnemonic ≠ .php → i.mnemonic ≠ .brk →
    exec i (withD d s) = if i.mnemonic ∈ writersOfD then exec i s else Result.withD d (exec i s)

/-- 70_reset_and_hazards.md R600, 10_state.md R70: the CPU's reset, for every `ResetRegs` and from every state. No memory is
written and `running` stays. -/
def Obligations.ResetSetsTheNamedRegisters : Prop :=
  ∀ (r : ResetRegs) (s : State),
    let t := cpuReset r s
    let lo := memRead 0xFFFC s
    let hi := memRead 0xFFFD lo.2
    t.a = r.a ∧ t.x = r.x ∧ t.y = r.y ∧ t.sp = r.sp ∧
    t.p = { n := r.n, v := r.v, d := r.d, i := true, z := r.z, c := r.c } ∧
    t.pc = word hi.1 lo.1 ∧ t.dev = hi.2.dev ∧ t.ram = s.ram ∧ t.session = s.session ∧
    t.nmiPending = false ∧ t.irqPending = false ∧ t.halted = false ∧ t.running = s.running ∧ t.cycles = none

/-- 10_state.md R67, 60_exceptions.md R571, R573, R574, I11 with 95_test_vectors.md X8: the 8 bytes of the CPU block; loading a saved
state, into any paused session of the same region with the same ROM, restores the CPU, the three memories, the mapper and the PPU,
and leaves the APU; another version byte, a buffer cut short anywhere and a state or CPU block of another ROM have no next state.
One item for the mapper's block and one for the PPU's, and the origin, are the model's choice (log entry 23), and so are the order of
the tests (log entry 37), what paused means (log entry 24), and that the session's sum of cycles goes on over a load (log entry 8). -/
def Obligations.SavedStatesLoadBack : Prop :=
  (∀ s : State, cpuSerialize s =
      [s.a, s.x, s.y, s.sp, lo8 s.pc, hi8 s.pc, packP true s.p,
        BitVec.ofNat 8 (s.nmiPending.toNat + 2 * s.irqPending.toNat + 4 * s.halted.toNat)]) ∧
    (∀ s u : State, s.Inv → u.running = false → u.session.phase ≠ .destroyed → u.session.region = s.session.region →
      u.dev.cart = s.dev.cart → ∃ t, stateLoad (stateSave s) u = .next t ∧
        sameRegs s t ∧ t.nmiPending = s.nmiPending ∧ t.irqPending = s.irqPending ∧ t.halted = s.halted ∧
        t.ram = s.ram ∧ t.dev.vram = s.dev.vram ∧ t.dev.oam = s.dev.oam ∧ t.dev.mapper = s.dev.mapper ∧
        t.dev.ppu = s.dev.ppu ∧ t.dev.apu = u.dev.apu ∧ t.running = u.running ∧ t.session = u.session) ∧
    ∀ u : State, u.running = false → u.session.phase ≠ .destroyed →
      (∀ (b : Byte) (items : List SaveItem) (origin : Option Cartridge), b ≠ 1 →
        stateLoad ⟨.byte b :: items, origin⟩ u = .fault .saveBadVersion) ∧
      (∀ (s : State) (n : Nat), u.dev.cart = s.dev.cart → n < (stateSave s).items.length →
        stateLoad ⟨(stateSave s).items.take n, s.dev.cart⟩ u = .fault .saveTruncated) ∧
      ∀ (s : State) (block : List Byte), u.dev.cart ≠ s.dev.cart →
        stateLoad (stateSave s) u = .refused .foreignState ∧ cpuLoad block s.dev.cart u = .refused .foreignState

/-- 60_exceptions.md R567 to R569 with 95_test_vectors.md X9: when an image is valid, and what its banks and mapper are. -/
def Obligations.RomValidityIsMagicCountsAndLength : Prop :=
  (∀ file : List Byte, romIsValid file = true ↔
      file.take 4 = [0x4E, 0x45, 0x53, 0x1A] ∧ 0 < (file.getD 4 0).toNat ∧
      16 + 512 * ((file.getD 6 0).getLsbD 2).toNat + 16384 * (file.getD 4 0).toNat + 8192 * (file.getD 5 0).toNat
        ≤ file.length ∧
      inMapperSet ((file.getD 7 0).toNat / 16 * 16 + (file.getD 6 0).toNat / 16) = true) ∧
    ∀ (file : List Byte) (c : Cartridge), parseRom file = .ok c →
      Cartridge.wf c = true ∧ c.prgBanks = (file.getD 4 0).toNat ∧ c.chrBanks = (file.getD 5 0).toNat ∧
      c.mapperId = (file.getD 7 0).toNat / 16 * 16 + (file.getD 6 0).toNat / 16

/-- R551, R552: a dot signals an NMI exactly when it begins VerticalBlank's first line and the NMI is enabled, and it then sets
the status flag; a rendered line keeps at most its first 8 sprites, sets the overflow flag when there were more, and writes its own row
of the output buffer. That the scanline counter is 0 on VerticalBlank's first line (log entry 13), when in its line a line is rendered
(log entry 14), and that an overflow flag that was set stays set (log entry 15), are the model's choice. -/
def Obligations.PpuSignalsVBlankAndLimitsSprites : Prop :=
  (∀ (r : Region) (d : Devices),
      let t := (stepDot r d).1.ppu
      let begins := d.ppu.timing.phase = .postRender ∧ t.timing.phase = .verticalBlank
      ((stepDot r d).2.nmi = true ↔ begins ∧ d.ppu.latches.nmiEnable = true) ∧
      (begins → t.latches.vblankFlag = true ∧ t.timing.scanline = 0 ∧ t.timing.dot = 0)) ∧
    ∀ (d : Devices) (line : Fin 240),
      let t := (renderLine d line).ppu
      t.lineSprites = (Config.spritesOnLine d line).take 8 ∧
      (t.latches.spriteOverflow = true ↔
        d.ppu.latches.spriteOverflow = true ∨ 8 < (Config.spritesOnLine d line).length) ∧
      ∀ row : Fin 240, row ≠ line → t.pixels[row] = d.ppu.pixels[row]

/-- R570, R554, 70_reset_and_hazards.md R623: a session step on NTSC is one CPU step and then 3 PPU dots for each of its cycles, and
the session's sum grows by the count; a halt step, which returns no count, advances nothing (DEDUCED, log entry 38). The dots of one
NTSC frame, 29,780 CPU cycles, enter VerticalBlank once, complete one frame, and lead back to where they began: that every frame is as
long is DEDUCED (log entry 13). That the session step is made in every phase but destroyed (log entry 29), and that the advance is an
event the devices remember (log entry 34), are the model's choice. -/
def Obligations.SessionStepsAdvanceThreeDotsPerCycle : Prop :=
  (∀ s t : State, s.session.region = .ntsc → s.session.phase ≠ .destroyed → step s = .next t →
      ∃ u, sessionStep s = .next u ∧
        u.session.totalCycles = s.session.totalCycles + t.cycles.getD 0 ∧
        (∀ n, t.cycles = some n →
          let v := advanceDots (3 * n) { t with dev := recordEvent t.dev (.advance n) }
          u.dev.ppu = v.dev.ppu ∧ u.dev.vram = v.dev.vram ∧ u.nmiPending = v.nmiPending ∧ u.irqPending = v.irqPending) ∧
        sameRegs t u ∧ u.ram = t.ram ∧ u.halted = t.halted ∧
        (t.cycles = none → u = t)) ∧
    ∀ (s : State) (n : Nat), s.Inv → s.session.region = .ntsc → n = 3 * 29780 →
      let t := advanceDots n s
      t.dev.ppu.timing = s.dev.ppu.timing ∧ t.dev.ppu.frames = s.dev.ppu.frames + 1 ∧ vblankEntries n s = 1

/-- 10_state.md R62, 60_exceptions.md R513, R514, R570, R572, R611, 20_memory.md R113, 00_scope.md R11: what the host's calls do to the
hidden bits and the session. A request sets its pending bit and nothing else, however often it is made; execution begins and ends;
start and stop move between Running and Paused and set and clear `running`; teardown destroys the memories, and a destroyed session has
no step and answers no call but the construction of another, in the region it names. Teardown from every phase, its clearing of
`running` and what a construction sets are the model's choice (log entry 41), and so are the refusals (log entry 24), that requests,
begin and end are answered in every phase but destroyed (log entry 29), and what start does while Running and stop outside it
(log entry 36). -/
def Obligations.HostCallsRequestStartStopAndDestroy : Prop :=
  ∀ s : State, s.session.phase ≠ .destroyed →
    hostCall .requestNmi s = .next { s with nmiPending := true } ∧
    hostCall .requestIrq s = .next { s with irqPending := true } ∧
    hostCall .beginExecution s = .next { s with running := true } ∧
    hostCall .endExecution s = .next { s with running := false } ∧
    (s.session.phase ≠ .unloaded → hostCall .startEmulation s =
      .next { s with running := true, session := { s.session with phase := .running } }) ∧
    (s.session.phase = .unloaded → hostCall .startEmulation s = .refused .outOfPhase) ∧
    (∃ t, hostCall .stopEmulation s = .next t ∧ hostCall .stopEmulation t = .next t ∧
      t = { s with running := false, session := { s.session with phase := t.session.phase } } ∧
      t.session.phase = if s.session.phase = .running then .paused else s.session.phase) ∧
    ∃ t, hostCall .destroy s = .next t ∧ t.session.phase = .destroyed ∧ t.running = false ∧
      t.ram = [] ∧ t.dev.vram = [] ∧ t.dev.oam = [] ∧ step t = .fault .noStep ∧
      (∀ c, constructs c = false → hostCall c t = .refused .outOfPhase) ∧
      ∀ region r init, ∃ u, hostCall (.construct region r init) t = .next u ∧
        u.session = ⟨.unloaded, region, 0⟩ ∧ u.running = false ∧ u.dev.cart = none ∧
        u.ram = Memory.ofBytes 0x800 init.ram ∧ u.a = r.a ∧ u.x = r.x ∧ u.y = r.y ∧ u.sp = r.sp ∧ u.p.i = true
end

