-- ==== Sys2Proof/Laws/Bits.lean ====
section
/-! SUPPORT. The small lemmas of Machine/Bits.lean: each notation of 00_scope.md R13 and R14 as arithmetic. -/

namespace Sys2Proof.Machine

@[simp] theorem lo8_toNat (w : Word) : (lo8 w).toNat = w.toNat % 256 := by
  simp [lo8, BitVec.extractLsb'_toNat]

@[simp] theorem hi8_toNat (w : Word) : (hi8 w).toNat = w.toNat / 256 := by
  have := w.isLt
  simp [hi8, BitVec.extractLsb'_toNat, Nat.shiftRight_eq_div_pow]
  omega

@[simp] theorem word_toNat (hi lo : Byte) : (word hi lo).toNat = hi.toNat * 256 + lo.toNat := by
  have := lo.isLt
  simp only [word, BitVec.toNat_append]
  rw [← Nat.shiftLeft_add_eq_or_of_lt this, Nat.shiftLeft_eq]

@[simp] theorem zext16_toNat (b : Byte) : (zext16 b).toNat = b.toNat := by
  have := b.isLt
  simp [zext16, BitVec.toNat_setWidth]
  omega

@[simp] theorem word_hi8_lo8 (w : Word) : word (hi8 w) (lo8 w) = w := by
  apply BitVec.eq_of_toNat_eq
  simp
  omega

@[simp] theorem lo8_word (hi lo : Byte) : lo8 (word hi lo) = lo := by
  apply BitVec.eq_of_toNat_eq
  have := lo.isLt
  simp
  omega

@[simp] theorem hi8_word (hi lo : Byte) : hi8 (word hi lo) = hi := by
  apply BitVec.eq_of_toNat_eq
  have := lo.isLt
  simp
  omega

theorem sext16_toNat (b : Byte) : (sext16 b).toNat = if b.toNat < 128 then b.toNat else b.toNat + 65280 := by
  have := b.isLt
  simp only [sext16, BitVec.toNat_signExtend, BitVec.msb_eq_decide, BitVec.toNat_setWidth]
  by_cases h : b.toNat < 128
  · have h' : ¬ 128 ≤ b.toNat := by omega
    simp [h, h']
    omega
  · have h' : 128 ≤ b.toNat := by omega
    simp [h, h']
    omega

@[simp] theorem bit_false : bit false = 0 := rfl
@[simp] theorem bit_true : bit true = 1 := rfl
theorem bit_toNat (c : Bool) : (bit c).toNat = c.toNat := by cases c <;> rfl

end Sys2Proof.Machine
end

