-- ==== Sys2Proof/Laws/Memory.lean ====
section
/-! SUPPORT. The laws of one memory: a read after a write to the same address gives the byte written, a write leaves every
other address alone (both for every list of cells), and every operation keeps the canonical form. -/

namespace Sys2Proof.Machine

@[simp] theorem Memory.read_nil (a : Nat) : Memory.read [] a = Memory.unlisted := rfl

theorem Memory.read_cons (c : Host.Cell) (m : Memory) (a : Nat) :
    Memory.read (c :: m) a = if c.1 = a then c.2 else Memory.read m a := rfl

theorem Memory.read_erase_same (m : Memory) (a : Nat) : Memory.read (Memory.erase m a) a = Memory.unlisted := by
  induction m with
  | nil => rfl
  | cons c m ih =>
    by_cases h : c.1 = a
    · simpa [Memory.erase, h] using ih
    · have hc : (c.1 != a) = true := by simpa using h
      have he : Memory.erase (c :: m) a = c :: Memory.erase m a := by simp [Memory.erase, hc]
      rw [he, Memory.read_cons, if_neg h, ih]

theorem Memory.read_erase_other (m : Memory) {a b : Nat} (h : b ≠ a) :
    Memory.read (Memory.erase m a) b = Memory.read m b := by
  induction m with
  | nil => rfl
  | cons c m ih =>
    by_cases hc : c.1 = a
    · have he : Memory.erase (c :: m) a = Memory.erase m a := by simp [Memory.erase, hc]
      rw [he, ih, Memory.read_cons, if_neg (by omega)]
    · have he : Memory.erase (c :: m) a = c :: Memory.erase m a := by simp [Memory.erase, hc]
      rw [he, Memory.read_cons, Memory.read_cons, ih]

theorem Memory.erase_no_key (m : Memory) (a : Nat) : ∀ c ∈ Memory.erase m a, c.1 ≠ a := by
  intro c hc
  simpa using (List.mem_filter.mp hc).2

theorem Memory.read_insert_same (m : Memory) (a : Nat) (v : Byte) (h : ∀ c ∈ m, c.1 ≠ a) :
    Memory.read (Memory.insert m a v) a = v := by
  induction m with
  | nil => simp [Memory.insert, Memory.read]
  | cons c m ih =>
    simp only [Memory.insert]
    split
    · simp [Memory.read]
    · rw [Memory.read_cons, if_neg (h c (by simp))]
      exact ih (fun d hd => h d (by simp [hd]))

theorem Memory.read_insert_other (m : Memory) (a b : Nat) (v : Byte) (h : b ≠ a) :
    Memory.read (Memory.insert m a v) b = Memory.read m b := by
  induction m with
  | nil => simp [Memory.insert, Memory.read, Ne.symm h]
  | cons c m ih =>
    simp only [Memory.insert]
    split
    · rw [Memory.read_cons, if_neg (Ne.symm h)]
    · rw [Memory.read_cons, Memory.read_cons, ih]

/-- A read after a write to the same address gives the byte written. -/
@[simp] theorem Memory.read_write_same (m : Memory) (a : Nat) (v : Byte) : Memory.read (Memory.write m a v) a = v := by
  unfold Memory.write
  split
  · rename_i h
    rw [Memory.read_erase_same, h]
  · exact Memory.read_insert_same _ _ _ (Memory.erase_no_key m a)

/-- A write leaves every other address alone. -/
theorem Memory.read_write_other (m : Memory) (a b : Nat) (v : Byte) (h : b ≠ a) :
    Memory.read (Memory.write m a v) b = Memory.read m b := by
  unfold Memory.write
  split
  · exact Memory.read_erase_other m h
  · rw [Memory.read_insert_other _ _ _ _ h, Memory.read_erase_other m h]

theorem Memory.read_write (m : Memory) (a b : Nat) (v : Byte) :
    Memory.read (Memory.write m a v) b = if b = a then v else Memory.read m b := by
  split
  · rename_i h
    rw [h, Memory.read_write_same]
  · exact Memory.read_write_other m a b v ‹_›

/-- The canonical form as a statement about the cells. -/
theorem Memory.wf_iff (size : Nat) (m : Memory) :
    Memory.wf size m = true ↔ m.Pairwise (fun c d => c.1 < d.1) ∧ ∀ c ∈ m, c.1 < size ∧ c.2 ≠ Memory.unlisted := by
  have hr : Memory.rising m = true ↔ m.Pairwise (fun c d => c.1 < d.1) := by
    induction m with
    | nil => simp [Memory.rising]
    | cons c m ih => simp [Memory.rising, Memory.above, ih]
  simp [Memory.wf, hr]

theorem Memory.wf_erase {size : Nat} {m : Memory} (h : Memory.wf size m = true) (a : Nat) :
    Memory.wf size (Memory.erase m a) = true := by
  rw [Memory.wf_iff] at h ⊢
  exact ⟨h.1.filter _, fun c hc => h.2 c (List.mem_filter.mp hc).1⟩

theorem Memory.mem_insert (m : Memory) (a : Nat) (v : Byte) (c : Host.Cell) :
    c ∈ Memory.insert m a v ↔ c = (a, v) ∨ c ∈ m := by
  induction m with
  | nil => simp [Memory.insert]
  | cons d m ih =>
    simp only [Memory.insert]
    split
    · simp
    · simp only [List.mem_cons, ih]
      tauto

theorem Memory.wf_insert {size : Nat} {m : Memory} (h : Memory.wf size m = true) (a : Nat) (v : Byte)
    (ha : a < size) (hv : v ≠ Memory.unlisted) (hk : ∀ c ∈ m, c.1 ≠ a) :
    Memory.wf size (Memory.insert m a v) = true := by
  rw [Memory.wf_iff] at h ⊢
  refine ⟨?_, ?_⟩
  · have hp := h.1
    clear h
    induction m with
    | nil => simp [Memory.insert]
    | cons d m ih =>
      rw [List.pairwise_cons] at hp
      simp only [Memory.insert]
      split
      · rename_i hd
        rw [List.pairwise_cons]
        refine ⟨?_, List.pairwise_cons.mpr hp⟩
        intro c hc
        rcases List.mem_cons.mp hc with rfl | hc
        · exact hd
        · exact Nat.lt_trans hd (hp.1 c hc)
      · rename_i hd
        rw [List.pairwise_cons]
        refine ⟨?_, ih (fun c hc => hk c (by simp [hc])) hp.2⟩
        intro c hc
        rcases (Memory.mem_insert m a v c).mp hc with rfl | hc
        · have := hk d (by simp)
          simp only
          omega
        · exact hp.1 c hc
  · intro c hc
    rcases (Memory.mem_insert m a v c).mp hc with rfl | hc
    · exact ⟨ha, hv⟩
    · exact h.2 c hc

/-- A write below the size keeps the canonical form. -/
theorem Memory.wf_write {size : Nat} {m : Memory} (h : Memory.wf size m = true) (a : Nat) (v : Byte) (ha : a < size) :
    Memory.wf size (Memory.write m a v) = true := by
  unfold Memory.write
  split
  · exact Memory.wf_erase h a
  · exact Memory.wf_insert (Memory.wf_erase h a) a v ha ‹_› (Memory.erase_no_key m a)

theorem Memory.wf_load {size : Nat} (bytes : List Byte) :
    ∀ (a : Nat) (m : Memory), Memory.wf size m = true → a + bytes.length ≤ size →
      Memory.wf size (Memory.load a bytes m) = true := by
  induction bytes with
  | nil => intro a m h _; exact h
  | cons b bs ih =>
    intro a m h hl
    simp only [List.length_cons] at hl
    exact ih (a + 1) _ (Memory.wf_write h a b (by omega)) (by omega)

@[simp] theorem Memory.wf_nil (size : Nat) : Memory.wf size [] = true := rfl

/-- A memory built from bytes is in canonical form within its size. -/
@[simp] theorem Memory.wf_ofBytes (size : Nat) (bytes : List Byte) : Memory.wf size (Memory.ofBytes size bytes) = true := by
  apply Memory.wf_load
  · rfl
  · simp

theorem Memory.read_load (bytes : List Byte) :
    ∀ (a : Nat) (m : Memory) (b : Nat), Memory.read (Memory.load a bytes m) b =
      if a ≤ b ∧ b < a + bytes.length then bytes.getD (b - a) 0 else Memory.read m b := by
  induction bytes with
  | nil =>
    intro a m b
    have : ¬ (a ≤ b ∧ b < a + ([] : List Byte).length) := by simp
    rw [if_neg this]
    rfl
  | cons v bs ih =>
    intro a m b
    simp only [Memory.load, List.length_cons]
    rw [ih, Memory.read_write]
    by_cases h1 : a + 1 ≤ b ∧ b < a + 1 + bs.length
    · rw [if_pos h1, if_pos (by omega)]
      have : b - a = (b - (a + 1)) + 1 := by omega
      rw [this]
      rfl
    · rw [if_neg h1]
      by_cases h2 : b = a
      · subst h2
        rw [if_pos rfl, if_pos (by omega)]
        simp
      · rw [if_neg h2, if_neg (by omega)]

/-- What a memory built from bytes reads as: the byte at the address, and what an unlisted address reads as beyond them. -/
theorem Memory.read_ofBytes (size : Nat) (bytes : List Byte) (a : Nat) :
    Memory.read (Memory.ofBytes size bytes) a = if a < size then bytes.getD a 0 else 0 := by
  unfold Memory.ofBytes
  rw [Memory.read_load]
  simp only [Nat.zero_le, true_and, Nat.zero_add, Nat.sub_zero, List.length_take, Memory.read_nil, Memory.unlisted]
  by_cases h1 : a < size
  · by_cases h2 : a < bytes.length
    · rw [if_pos (by omega), if_pos h1]
      simp [List.getD_eq_getElem?_getD, h1]
    · rw [if_neg (by omega), if_pos h1]
      simp [List.getD_eq_getElem?_getD, List.getElem?_eq_none (Nat.le_of_not_lt h2)]
  · rw [if_neg (by omega), if_neg h1]

@[simp] theorem Memory.length_toBytes (size : Nat) (m : Memory) : (Memory.toBytes size m).length = size := by
  simp [Memory.toBytes]

theorem Memory.getD_toBytes (size : Nat) (m : Memory) (a : Nat) (h : a < size) :
    (Memory.toBytes size m).getD a 0 = Memory.read m a := by
  simp [Memory.toBytes, List.getD_eq_getElem?_getD, h]

end Sys2Proof.Machine
end

