-- ==== Sys2Proof/Laws/Bus.lean ====
section
/-! SUPPORT. What a bus access can do to the devices: it leaves the cartridge, the controllers and the frame position alone,
keeps the devices well formed, and either changes nothing or puts its event on the history. -/

namespace Sys2Proof.Machine

theorem vramIndex_lt (m : Mirroring) (a : Nat) : vramIndex m a < 0x8000 := by
  unfold vramIndex
  simp only
  split
  · rename_i h
    have hp : physicalTable m ((a % 0x8000 - 0x2000) / 0x400) < 4 := by
      have ht : (a % 0x8000 - 0x2000) / 0x400 < 4 := by omega
      generalize (a % 0x8000 - 0x2000) / 0x400 = t at ht ⊢
      cases m
      · simp only [physicalTable]
        split <;> omega
      · simp only [physicalTable]
        omega
      · simp [physicalTable]
      · simpa [physicalTable] using ht
    omega
  · omega

theorem Devices.wf_iff (r : Region) (d : Devices) : Devices.wf r d = true ↔
    Memory.wf 0x8000 d.vram = true ∧ Memory.wf 0x100 d.oam = true ∧ inFrame r d.ppu.timing = true ∧
      d.ppu.lineSprites.length ≤ spriteLimit ∧ ∀ c, d.cart = some c → Cartridge.wf c = true := by
  unfold Devices.wf goodPpu
  cases h : d.cart <;> simp [and_assoc]

/-- A bank-select leaves every entry of a table but the one it addresses (60_exceptions.md R563). -/
theorem selectBank_other {space : BankSpace} (table : List Nat) {sel : Option BankSelect} {k : Nat}
    (h : ∀ b, sel = some b → b.space = space → k ≠ b.window) : (selectBank space table sel)[k]? = table[k]? := by
  unfold selectBank
  split
  · rename_i b
    split
    · rename_i hs
      exact List.getElem?_set_ne (Ne.symm (h b rfl hs))
    · rfl
  · rfl

/-- A bank-select puts its bank into the window it addresses (R563). -/
theorem selectBank_addressed (table : List Nat) (b : BankSelect) (h : b.window < table.length) :
    (selectBank b.space table (some b))[b.window]? = some b.bank := by
  simp [selectBank, h]

theorem foldl_vramWrite (ws : List (Nat × Byte)) : ∀ d : Devices,
    ∃ m, ws.foldl (fun d w => vramWrite d w.1 w.2) d = { d with vram := m } ∧
      (Memory.wf 0x8000 d.vram = true → Memory.wf 0x8000 m = true) := by
  induction ws with
  | nil => intro d; exact ⟨d.vram, rfl, id⟩
  | cons w ws ih =>
    intro d
    obtain ⟨m, hm, hw⟩ := ih (vramWrite d w.1 w.2)
    exact ⟨m, hm, fun h => hw (Memory.wf_write h _ _ (vramIndex_lt _ _))⟩

theorem foldl_oamWrite (ws : List (Nat × Byte)) : ∀ d : Devices,
    ∃ m, ws.foldl (fun d w => oamWrite d w.1 w.2) d = { d with oam := m } ∧
      (Memory.wf 0x100 d.oam = true → Memory.wf 0x100 m = true) := by
  induction ws with
  | nil => intro d; exact ⟨d.oam, rfl, id⟩
  | cons w ws ih =>
    intro d
    obtain ⟨m, hm, hw⟩ := ih (oamWrite d w.1 w.2)
    exact ⟨m, hm, fun h => hw (Memory.wf_write h _ _ (Nat.mod_lt _ (by decide)))⟩

/-- The mapper's side of an answer changes the mapper's state and the mirroring mode, nothing else. -/
theorem applyMapper_cases (d : Devices) (r : MapperReply) :
    ∃ ms mir, applyMapper d r = { d with mapper := ms, ppu := { d.ppu with mirroring := mir } } := by
  unfold applyMapper
  split
  · split
    · exact ⟨d.mapper, d.ppu.mirroring, rfl⟩
    · exact ⟨_, _, rfl⟩
  · exact ⟨d.mapper, d.ppu.mirroring, rfl⟩

/-- Everything an answer of the free Bus can change: VRAM, OAM, the PPU's latches and mirroring mode, the APU's channels, the
mapper's state, and the history, which gets the event. -/
theorem applyReply_cases (d : Devices) (e : BusEvent) (r : BusReply) :
    ∃ vm om ms mir, applyReply d e r =
        { d with
          vram := vm
          oam := om
          mapper := ms
          ppu := { d.ppu with latches := r.latches, mirroring := mir }
          apu := { d.apu with channels := r.channels }
          events := e :: d.events } ∧
      (Memory.wf 0x8000 d.vram = true → Memory.wf 0x8000 vm = true) ∧
      (Memory.wf 0x100 d.oam = true → Memory.wf 0x100 om = true) := by
  unfold applyReply
  obtain ⟨vm, hv, hvw⟩ := foldl_vramWrite r.vramWrites d
  obtain ⟨om, ho, how⟩ := foldl_oamWrite r.oamWrites { d with vram := vm }
  simp only [hv, ho]
  obtain ⟨ms, mir, hm⟩ := applyMapper_cases
    { d with
      vram := vm
      oam := om
      ppu := { d.ppu with latches := r.latches }
      apu := { d.apu with channels := r.channels } } r.mapper
  rw [hm]
  exact ⟨vm, om, ms, mir, rfl, hvw, how⟩

theorem applyReply_wf {g : Region} {d : Devices} (h : Devices.wf g d = true) (e : BusEvent) (r : BusReply) :
    Devices.wf g (applyReply d e r) = true := by
  obtain ⟨vm, om, ms, mir, he, hv, ho⟩ := applyReply_cases d e r
  rw [Devices.wf_iff] at h ⊢
  rw [he]
  exact ⟨hv h.1, ho h.2.1, h.2.2.1, h.2.2.2.1, h.2.2.2.2⟩

@[simp] theorem applyReply_cart (d : Devices) (e : BusEvent) (r : BusReply) : (applyReply d e r).cart = d.cart := by
  obtain ⟨vm, om, ms, mir, he, -, -⟩ := applyReply_cases d e r
  rw [he]

@[simp] theorem applyReply_events (d : Devices) (e : BusEvent) (r : BusReply) :
    (applyReply d e r).events = e :: d.events := by
  obtain ⟨vm, om, ms, mir, he, -, -⟩ := applyReply_cases d e r
  rw [he]

/-- The devices after a bus read, in its two cases: mapper 0's window answers and nothing changes, or the free Bus does. -/
theorem busRead_cases (d : Devices) (a : Word) :
    (∃ c, fixedBank? d a = some c ∧ busRead d a = (prgByte c a, d)) ∨
      (fixedBank? d a = none ∧ busRead d a =
        ((Config.busReply d (.read a)).value, applyReply d (.read a) (Config.busReply d (.read a)))) := by
  unfold busRead
  cases h : fixedBank? d a with
  | some c => exact .inl ⟨c, rfl, rfl⟩
  | none => exact .inr ⟨rfl, rfl⟩

/-- The devices after a bus write, in its two cases. -/
theorem busWrite_cases (d : Devices) (a : Word) (v : Byte) :
    (∃ c, fixedBank? d a = some c ∧ busWrite d a v = (false, d)) ∨
      (fixedBank? d a = none ∧ busWrite d a v =
        ((Config.busReply d (.write a v)).irq, applyReply d (.write a v) (Config.busReply d (.write a v)))) := by
  unfold busWrite
  cases h : fixedBank? d a with
  | some c => exact .inl ⟨c, rfl, rfl⟩
  | none => exact .inr ⟨rfl, rfl⟩

theorem busRead_wf {g : Region} {d : Devices} (h : Devices.wf g d = true) (a : Word) :
    Devices.wf g (busRead d a).2 = true := by
  rcases busRead_cases d a with ⟨c, -, he⟩ | ⟨-, he⟩ <;> rw [he]
  · exact h
  · exact applyReply_wf h _ _

theorem busWrite_wf {g : Region} {d : Devices} (h : Devices.wf g d = true) (a : Word) (v : Byte) :
    Devices.wf g (busWrite d a v).2 = true := by
  rcases busWrite_cases d a v with ⟨c, -, he⟩ | ⟨-, he⟩ <;> rw [he]
  · exact h
  · exact applyReply_wf h _ _

@[simp] theorem busRead_cart (d : Devices) (a : Word) : (busRead d a).2.cart = d.cart := by
  rcases busRead_cases d a with ⟨c, -, he⟩ | ⟨-, he⟩ <;> rw [he]
  exact applyReply_cart d _ _

@[simp] theorem busWrite_cart (d : Devices) (a : Word) (v : Byte) : (busWrite d a v).2.cart = d.cart := by
  rcases busWrite_cases d a v with ⟨c, -, he⟩ | ⟨-, he⟩ <;> rw [he]
  exact applyReply_cart d _ _

/-- A bus read that leaves the history alone leaves every device alone. -/
theorem busRead_quiet (d : Devices) (a : Word) (h : (busRead d a).2.events = d.events) : (busRead d a).2 = d := by
  rcases busRead_cases d a with ⟨c, -, he⟩ | ⟨-, he⟩ <;> rw [he] at h ⊢
  simp at h

/-- A bus write that leaves the history alone leaves every device alone and requests no IRQ. -/
theorem busWrite_quiet (d : Devices) (a : Word) (v : Byte) (h : (busWrite d a v).2.events = d.events) :
    busWrite d a v = (false, d) := by
  rcases busWrite_cases d a v with ⟨c, -, he⟩ | ⟨-, he⟩ <;> rw [he] at h ⊢
  simp at h

/-- A bus access lengthens the history or leaves it. -/
theorem busRead_suffix (d : Devices) (a : Word) : d.events <:+ (busRead d a).2.events := by
  rcases busRead_cases d a with ⟨c, -, he⟩ | ⟨-, he⟩ <;> rw [he]
  simp

theorem busWrite_suffix (d : Devices) (a : Word) (v : Byte) : d.events <:+ (busWrite d a v).2.events := by
  rcases busWrite_cases d a v with ⟨c, -, he⟩ | ⟨-, he⟩ <;> rw [he]
  simp

end Sys2Proof.Machine
end

