-- ==== Sys2Proof/Laws/Decode.lean ====
section
/-! SUPPORT. What the decoder does with the operand bytes (30_encoding.md R161, R162): the row depends on the opcode byte
alone, and the operand is the one the row's mode makes of the bytes. -/

namespace Sys2Proof

open Sys2Proof.Machine

/-- The operand a mode makes of the operand bytes b1 and {b2, b1} (R162). -/
def Mode.operand (m : Mode) (b : Byte) (w : Word) : Operand :=
  match m with
  | .imp => .implied
  | .acc => .accumulator
  | .imm => .immediate b
  | .rel => .relative b
  | .zp => .memory (.zp b)
  | .zpx => .memory (.zpx b)
  | .zpy => .memory (.zpy b)
  | .abs => .memory (.abs w)
  | .absx => .memory (.absx w)
  | .absy => .memory (.absy w)
  | .ind => .memory (.ind w)
  | .indx => .memory (.indx b)
  | .indy => .memory (.indy b)

/-- One entry of the opcode map: its row is the same for all operand bytes, its operand the mode's, none if it halts, and the
operand is all that the operand bytes decide. -/
def DecodesUniformly (f : Byte → Word → Instr) : Prop :=
  ∀ b w, (f b w).row = (f 0 0).row ∧
    (f b w).operand = (if (f 0 0).row.halts then .implied else (f 0 0).row.mode.operand b w) ∧
    ∀ b' w', (f b w).operand = (f b' w').operand → f b w = f b' w'

theorem decodeRow0_uniform : ∀ f ∈ decodeRow0, DecodesUniformly f := by
  repeat' first | exact List.forall_mem_nil _ | refine List.forall_mem_cons.mpr ⟨fun _ _ => ⟨rfl, rfl, fun _ _ h => by cases h; rfl⟩, ?_⟩
theorem decodeRow1_uniform : ∀ f ∈ decodeRow1, DecodesUniformly f := by
  repeat' first | exact List.forall_mem_nil _ | refine List.forall_mem_cons.mpr ⟨fun _ _ => ⟨rfl, rfl, fun _ _ h => by cases h; rfl⟩, ?_⟩
theorem decodeRow2_uniform : ∀ f ∈ decodeRow2, DecodesUniformly f := by
  repeat' first | exact List.forall_mem_nil _ | refine List.forall_mem_cons.mpr ⟨fun _ _ => ⟨rfl, rfl, fun _ _ h => by cases h; rfl⟩, ?_⟩
theorem decodeRow3_uniform : ∀ f ∈ decodeRow3, DecodesUniformly f := by
  repeat' first | exact List.forall_mem_nil _ | refine List.forall_mem_cons.mpr ⟨fun _ _ => ⟨rfl, rfl, fun _ _ h => by cases h; rfl⟩, ?_⟩
theorem decodeRow4_uniform : ∀ f ∈ decodeRow4, DecodesUniformly f := by
  repeat' first | exact List.forall_mem_nil _ | refine List.forall_mem_cons.mpr ⟨fun _ _ => ⟨rfl, rfl, fun _ _ h => by cases h; rfl⟩, ?_⟩
theorem decodeRow5_uniform : ∀ f ∈ decodeRow5, DecodesUniformly f := by
  repeat' first | exact List.forall_mem_nil _ | refine List.forall_mem_cons.mpr ⟨fun _ _ => ⟨rfl, rfl, fun _ _ h => by cases h; rfl⟩, ?_⟩
theorem decodeRow6_uniform : ∀ f ∈ decodeRow6, DecodesUniformly f := by
  repeat' first | exact List.forall_mem_nil _ | refine List.forall_mem_cons.mpr ⟨fun _ _ => ⟨rfl, rfl, fun _ _ h => by cases h; rfl⟩, ?_⟩
theorem decodeRow7_uniform : ∀ f ∈ decodeRow7, DecodesUniformly f := by
  repeat' first | exact List.forall_mem_nil _ | refine List.forall_mem_cons.mpr ⟨fun _ _ => ⟨rfl, rfl, fun _ _ h => by cases h; rfl⟩, ?_⟩
theorem decodeRow8_uniform : ∀ f ∈ decodeRow8, DecodesUniformly f := by
  repeat' first | exact List.forall_mem_nil _ | refine List.forall_mem_cons.mpr ⟨fun _ _ => ⟨rfl, rfl, fun _ _ h => by cases h; rfl⟩, ?_⟩
theorem decodeRow9_uniform : ∀ f ∈ decodeRow9, DecodesUniformly f := by
  repeat' first | exact List.forall_mem_nil _ | refine List.forall_mem_cons.mpr ⟨fun _ _ => ⟨rfl, rfl, fun _ _ h => by cases h; rfl⟩, ?_⟩
theorem decodeRowA_uniform : ∀ f ∈ decodeRowA, DecodesUniformly f := by
  repeat' first | exact List.forall_mem_nil _ | refine List.forall_mem_cons.mpr ⟨fun _ _ => ⟨rfl, rfl, fun _ _ h => by cases h; rfl⟩, ?_⟩
theorem decodeRowB_uniform : ∀ f ∈ decodeRowB, DecodesUniformly f := by
  repeat' first | exact List.forall_mem_nil _ | refine List.forall_mem_cons.mpr ⟨fun _ _ => ⟨rfl, rfl, fun _ _ h => by cases h; rfl⟩, ?_⟩
theorem decodeRowC_uniform : ∀ f ∈ decodeRowC, DecodesUniformly f := by
  repeat' first | exact List.forall_mem_nil _ | refine List.forall_mem_cons.mpr ⟨fun _ _ => ⟨rfl, rfl, fun _ _ h => by cases h; rfl⟩, ?_⟩
theorem decodeRowD_uniform : ∀ f ∈ decodeRowD, DecodesUniformly f := by
  repeat' first | exact List.forall_mem_nil _ | refine List.forall_mem_cons.mpr ⟨fun _ _ => ⟨rfl, rfl, fun _ _ h => by cases h; rfl⟩, ?_⟩
theorem decodeRowE_uniform : ∀ f ∈ decodeRowE, DecodesUniformly f := by
  repeat' first | exact List.forall_mem_nil _ | refine List.forall_mem_cons.mpr ⟨fun _ _ => ⟨rfl, rfl, fun _ _ h => by cases h; rfl⟩, ?_⟩
theorem decodeRowF_uniform : ∀ f ∈ decodeRowF, DecodesUniformly f := by
  repeat' first | exact List.forall_mem_nil _ | refine List.forall_mem_cons.mpr ⟨fun _ _ => ⟨rfl, rfl, fun _ _ h => by cases h; rfl⟩, ?_⟩

theorem decodeTable_uniform : ∀ f ∈ decodeTable, DecodesUniformly f := by
  simp only [decodeTable, List.forall_mem_append]
  exact ⟨⟨⟨⟨⟨⟨⟨⟨decodeRow0_uniform, decodeRow1_uniform⟩, decodeRow2_uniform⟩, decodeRow3_uniform⟩, decodeRow4_uniform⟩,
    decodeRow5_uniform⟩, decodeRow6_uniform⟩, decodeRow7_uniform⟩, ⟨⟨⟨⟨⟨⟨decodeRow8_uniform, decodeRow9_uniform⟩,
    decodeRowA_uniform⟩, decodeRowB_uniform⟩, decodeRowC_uniform⟩, decodeRowD_uniform⟩, decodeRowE_uniform⟩,
    decodeRowF_uniform⟩

/-- The opcode byte alone fixes the row: mnemonic, mode, whether it halts (R161). -/
theorem decodeOp_row (op b1 b2 : Byte) : (decodeOp op b1 b2).row = (decodeOp op 0 0).row :=
  (decodeTable_uniform _ (List.getElem_mem _) b1 (word b2 b1)).1

/-- The operand of a decoded instruction is the one its mode makes of the operand bytes (R162); a halting opcode has none
(R226). -/
theorem decodeOp_operand (op b1 b2 : Byte) :
    (decodeOp op b1 b2).operand =
      if (decodeOp op 0 0).row.halts then .implied else (decodeOp op 0 0).row.mode.operand b1 (word b2 b1) :=
  (decodeTable_uniform _ (List.getElem_mem _) b1 (word b2 b1)).2.1

/-- The operand bytes decide nothing but the operand. -/
theorem decodeOp_ext {op b1 b2 c1 c2 : Byte} (h : (decodeOp op b1 b2).operand = (decodeOp op c1 c2).operand) :
    decodeOp op b1 b2 = decodeOp op c1 c2 :=
  (decodeTable_uniform _ (List.getElem_mem _) b1 (word b2 b1)).2.2 _ _ h

theorem Mode.operand_mode (m : Mode) (b : Byte) (w : Word) : (m.operand b w).mode = m := by cases m <;> rfl

/-- The bytes of a mode's operand are the operand bytes it was made of (R162). -/
theorem Mode.operand_bytes (m : Mode) (b1 b2 : Byte) :
    (m.operand b1 (word b2 b1)).bytes = [b1, b2].take (m.length - 1) := by
  cases m <;> simp [Mode.operand, Operand.bytes, MemOperand.bytes, wordBytes, Mode.length]

end Sys2Proof
end

