-- ==== Sys2Proof/Laws/Frame.lean ====
section
/-! SUPPORT. The PPU's frame (60_exceptions.md R550, R554): its lines make up its dots, every dot stays in the frame, and a frame's
dots lead from any place in it back to that place, through VerticalBlank's first line once and through the end of line 239 once. -/

namespace Sys2Proof.Machine

theorem shareDots_length (free : Nat → Nat) (n spare : Nat) : (shareDots free n spare).length = n + 1 := by
  induction n generalizing spare with
  | zero => rfl
  | succ n ih => simp [shareDots, ih]

theorem shareDots_sum (free : Nat → Nat) (n spare : Nat) : (shareDots free n spare).sum = spare := by
  induction n generalizing spare with
  | zero => simp [shareDots]
  | succ n ih =>
    simp only [shareDots, List.sum_cons, ih]
    omega

theorem fewestLines_le_frameDots (r : Region) : fewestLines ≤ frameDots r := by
  cases r <;> simp [fewestLines, frameDots, ntscFrameCycles]

theorem frameLines_le_frameDots (r : Region) : frameLines r ≤ frameDots r := by
  have h := fewestLines_le_frameDots r
  unfold frameLines lastVerticalBlankLine lastPostRenderLine lastPreRenderLine
  omega

theorem frameLines_eq (r : Region) :
    frameLines r = 243 + lastPreRenderLine r + lastPostRenderLine r + lastVerticalBlankLine r := rfl

theorem lastDots_length (r : Region) : (lastDots r).length = frameLines r := by
  rw [lastDots, shareDots_length, frameLines_eq]
  omega

/-- A frame's lines make up its dots: 3 * 29,780 on NTSC (70_reset_and_hazards.md R623). -/
theorem lastDots_sum (r : Region) : (lastDots r).sum + frameLines r = frameDots r := by
  rw [lastDots, shareDots_sum]
  have := frameLines_le_frameDots r
  omega

theorem frameStart_inFrame (r : Region) : inFrame r frameStart = true := by simp [inFrame, frameStart]

/-- A dot stays in the frame (R550). -/
theorem nextDot_inFrame {r : Region} {t : PpuTiming} (h : inFrame r t = true) : inFrame r (nextDot r t) = true := by
  unfold nextDot
  split
  · rename_i hw
    simp only [withinLine, decide_eq_true_eq] at hw
    simp only [inFrame, Bool.and_eq_true, decide_eq_true_eq] at h ⊢
    exact ⟨hw, h.2⟩
  · rcases t with ⟨ph, sl, dot⟩
    cases ph with
    | preRender =>
      simp only [nextLine]
      split <;> simp [inFrame]
      omega
    | visible line =>
      simp only [nextLine]
      split <;> simp [inFrame]
    | postRender =>
      simp only [nextLine]
      split <;> simp [inFrame]
      omega
    | verticalBlank =>
      simp only [nextLine]
      split <;> simp [inFrame, frameStart]
      omega

/-- The first dot of the line at a place in the frame. -/
def lineStart (r : Region) (l : Nat) : PpuTiming :=
  if l ≤ lastPreRenderLine r then ⟨.preRender, l, 0⟩
  else if h : l - (lastPreRenderLine r + 1) < 240 then ⟨.visible ⟨_, h⟩, l - (lastPreRenderLine r + 1), 0⟩
  else if l ≤ lastPreRenderLine r + 241 + lastPostRenderLine r then ⟨.postRender, l - (lastPreRenderLine r + 241), 0⟩
  else ⟨.verticalBlank, l - (lastPreRenderLine r + 242 + lastPostRenderLine r), 0⟩

theorem lineInFrame_lineStart (r : Region) (l : Nat) : lineInFrame r (lineStart r l) = l := by
  unfold lineStart
  split
  · rfl
  · split
    · simp only [lineInFrame]
      omega
    · split <;> simp only [lineInFrame] <;> omega

@[simp] theorem lineStart_dot (r : Region) (l : Nat) : (lineStart r l).dot = 0 := by
  unfold lineStart
  split
  · rfl
  · split
    · rfl
    · split <;> rfl

/-- After the line at place `l` comes the line at `l + 1`, and after the frame's last its first. -/
theorem nextLine_lineStart (r : Region) {l : Nat} (h : l < frameLines r) (dot : Nat) :
    nextLine r { lineStart r l with dot := dot } = if l + 1 < frameLines r then lineStart r (l + 1) else frameStart := by
  rw [frameLines_eq] at *
  unfold lineStart
  split
  · rename_i h1
    simp only [nextLine]
    by_cases h2 : l < lastPreRenderLine r
    · rw [if_pos h2, if_pos (by omega), if_pos (by omega)]
    · have h3 : l = lastPreRenderLine r := by omega
      subst h3
      rw [if_neg h2, if_pos (by omega), if_neg (by omega), dif_pos (by omega)]
      simp
  · rename_i h1
    split
    · rename_i h2
      simp only [nextLine]
      rw [if_pos (by omega), if_neg (by omega)]
      by_cases h3 : l - (lastPreRenderLine r + 1) + 1 < 240
      · have h4 : l + 1 - (lastPreRenderLine r + 1) = l - (lastPreRenderLine r + 1) + 1 := by omega
        rw [dif_pos h3, dif_pos (by omega)]
        simp only [h4]
      · rw [dif_neg h3, dif_neg (by omega), if_pos (by omega)]
        simp only [PpuTiming.mk.injEq, true_and, and_true]
        omega
    · rename_i h2
      split
      · rename_i h3
        simp only [nextLine]
        rw [if_neg (c := l + 1 ≤ _) (by omega), dif_neg (by omega)]
        by_cases h4 : l - (lastPreRenderLine r + 241) < lastPostRenderLine r
        · rw [if_pos h4, if_pos (by omega), if_pos (by omega)]
          simp only [PpuTiming.mk.injEq, true_and, and_true]
          omega
        · rw [if_neg h4, if_pos (by omega), if_neg (by omega)]
          simp only [PpuTiming.mk.injEq, true_and, and_true]
          omega
      · rename_i h3
        simp only [nextLine]
        rw [if_neg (c := l + 1 ≤ _) (by omega), dif_neg (by omega), if_neg (c := l + 1 ≤ _) (by omega)]
        by_cases h4 : l - (lastPreRenderLine r + 242 + lastPostRenderLine r) < lastVerticalBlankLine r
        · rw [if_pos h4, if_pos (by omega)]
          simp only [PpuTiming.mk.injEq, true_and, and_true]
          omega
        · rw [if_neg h4, if_neg (by omega)]

theorem lineStart_visible_239 (r : Region) (l : Nat) :
    (lineStart r l).phase = .visible 239 ↔ l = lastPreRenderLine r + 240 := by
  unfold lineStart
  split
  · simp
    omega
  · split
    · simp only [PpuPhase.visible.injEq, Fin.ext_iff]
      have : ((239 : Fin 240) : Nat) = 239 := rfl
      rw [this]
      omega
    · split <;> simp <;> omega

theorem lineStart_postRender (r : Region) (l : Nat) : (lineStart r l).phase = .postRender ↔
    lastPreRenderLine r + 241 ≤ l ∧ l ≤ lastPreRenderLine r + 241 + lastPostRenderLine r := by
  unfold lineStart
  split
  · simp
    omega
  · split
    · simp
      omega
    · split <;> simp <;> omega

theorem lineStart_verticalBlank (r : Region) (l : Nat) : (lineStart r l).phase = .verticalBlank ↔
    lastPreRenderLine r + 242 + lastPostRenderLine r ≤ l := by
  unfold lineStart
  split
  · simp
    omega
  · split
    · simp
      omega
    · split <;> simp <;> omega

/-- A number of dots in a row: where they lead, how often they enter VerticalBlank, how often they complete a frame. -/
def dotsRun (r : Region) : Nat → PpuTiming → PpuTiming × Nat × Nat
  | 0, t => (t, 0, 0)
  | k + 1, t =>
    let t' := nextDot r t
    let u := dotsRun r k t'
    (u.1, (entersVBlank t t').toNat + u.2.1, (completesFrame t t').toNat + u.2.2)

theorem dotsRun_add (r : Region) (j k : Nat) (t : PpuTiming) :
    dotsRun r (j + k) t =
      let u := dotsRun r j t
      let w := dotsRun r k u.1
      (w.1, u.2.1 + w.2.1, u.2.2 + w.2.2) := by
  induction j generalizing t with
  | zero => simp [dotsRun]
  | succ j ih =>
    rw [Nat.succ_add]
    simp only [dotsRun, ih, Nat.add_assoc]

/-- Dots within a line only count up. -/
theorem dotsRun_within (r : Region) (k : Nat) (t : PpuTiming) (h : t.dot + k ≤ lastDot r t) :
    dotsRun r k t = ({ t with dot := t.dot + k }, 0, 0) := by
  induction k generalizing t with
  | zero => rfl
  | succ k ih =>
    have hw : withinLine r t = true := by
      simp only [withinLine, decide_eq_true_eq]
      omega
    have hd : lastDot r { t with dot := t.dot + 1 } = lastDot r t := rfl
    have hi := ih { t with dot := t.dot + 1 } (by rw [hd]; simp only; omega)
    simp only [dotsRun, nextDot, if_pos hw, hi]
    simp only [Prod.mk.injEq, PpuTiming.mk.injEq, true_and]
    refine ⟨by omega, ?_, ?_⟩
    · simp only [entersVBlank]
      cases t.phase <;> rfl
    · simp only [completesFrame]
      cases t.phase <;> simp

theorem decide_toNat (p : Prop) [Decidable p] : (decide p).toNat = if p then 1 else 0 := by
  split <;> simp [*]

/-- The dots of a frame before the line at place `l`. -/
def dotsBefore (r : Region) (l : Nat) : Nat := ((lastDots r).take l).sum + l

theorem dotsBefore_succ (r : Region) {l : Nat} (h : l < frameLines r) :
    dotsBefore r (l + 1) = dotsBefore r l + ((lastDots r).getD l 0 + 1) := by
  have hl : l < (lastDots r).length := by rwa [lastDots_length]
  have hg : (lastDots r).getD l 0 = (lastDots r)[l] := by simp [hl]
  unfold dotsBefore
  rw [hg, List.sum_take_succ _ _ hl]
  omega

theorem dotsBefore_frame (r : Region) : dotsBefore r (frameLines r) = frameDots r := by
  unfold dotsBefore
  rw [← lastDots_length, List.take_length, lastDots_length, lastDots_sum]

theorem dotsBefore_le (r : Region) {l : Nat} (h : l ≤ frameLines r) : dotsBefore r l ≤ frameDots r := by
  rw [← dotsBefore_frame]
  unfold dotsBefore
  have h1 : ((lastDots r).take l).sum ≤ ((lastDots r).take (frameLines r)).sum := by
    rw [← Nat.add_sub_cancel' h, List.take_add, List.sum_append]
    omega
  omega

/-- One whole line, from its first dot. -/
theorem dotsRun_line (r : Region) {l : Nat} (h : l < frameLines r) :
    dotsRun r ((lastDots r).getD l 0 + 1) (lineStart r l) =
      (if l + 1 < frameLines r then lineStart r (l + 1) else frameStart,
        (decide (l = lastPreRenderLine r + 241 + lastPostRenderLine r)).toNat,
        (decide (l = lastPreRenderLine r + 240)).toNat) := by
  have hd : lastDot r (lineStart r l) = (lastDots r).getD l 0 := by rw [lastDot, lineInFrame_lineStart]
  have h0 := lineStart_dot r l
  have hw := dotsRun_within r ((lastDots r).getD l 0) (lineStart r l) (by rw [h0, hd]; omega)
  rw [dotsRun_add, hw]
  have hn : withinLine r { lineStart r l with dot := (lineStart r l).dot + (lastDots r).getD l 0 } = false := by
    have : lastDot r { lineStart r l with dot := (lineStart r l).dot + (lastDots r).getD l 0 } = lastDot r (lineStart r l) :=
      rfl
    simp only [withinLine, decide_eq_false_iff_not]
    rw [this, hd, h0]
    omega
  simp only [dotsRun, nextDot, hn, Bool.false_eq_true, if_false, nextLine_lineStart r h, Nat.zero_add, Nat.add_zero,
    Prod.mk.injEq, true_and]
  rw [frameLines_eq] at *
  have e1 := lineStart_postRender r l
  have e2 := lineStart_verticalBlank r (l + 1)
  have e3 := lineStart_visible_239 r l
  have e4 := lineStart_postRender r (l + 1)
  constructor
  · congr 1
    rw [Bool.eq_iff_iff]
    simp only [entersVBlank, Bool.and_eq_true, beq_iff_eq, decide_eq_true_eq]
    split
    · rw [e1, e2]
      omega
    · simp only [frameStart, reduceCtorEq, and_false, false_iff]
      omega
  · congr 1
    rw [Bool.eq_iff_iff]
    simp only [completesFrame, Bool.and_eq_true, beq_iff_eq, decide_eq_true_eq]
    split
    · rw [e3, e4]
      omega
    · simp only [frameStart, reduceCtorEq, and_false, false_iff]
      omega

theorem lineStart_zero (r : Region) : lineStart r 0 = frameStart := by simp [lineStart, frameStart]

/-- The frame's dots up to the line at place `l`, from its first. -/
theorem dotsRun_lines (r : Region) {l : Nat} (h : l < frameLines r) :
    dotsRun r (dotsBefore r l) frameStart =
      (lineStart r l, (decide (lastPreRenderLine r + 241 + lastPostRenderLine r < l)).toNat,
        (decide (lastPreRenderLine r + 240 < l)).toNat) := by
  induction l with
  | zero => simp [dotsBefore, dotsRun, lineStart_zero]
  | succ l ih =>
    have hl : l < frameLines r := by omega
    rw [dotsBefore_succ r hl, dotsRun_add, ih hl]
    simp only [dotsRun_line r hl, if_pos h, Prod.mk.injEq, true_and]
    simp only [decide_toNat]
    constructor <;> split_ifs <;> omega

/-- A whole frame, from its first dot. -/
theorem dotsRun_frameStart (r : Region) : dotsRun r (frameDots r) frameStart = (frameStart, 1, 1) := by
  have hf := frameLines_eq r
  have hl : frameLines r - 1 < frameLines r := by omega
  have hs : frameLines r - 1 + 1 = frameLines r := by omega
  rw [← dotsBefore_frame, ← hs, dotsBefore_succ r hl, dotsRun_add, dotsRun_lines r hl]
  simp only [dotsRun_line r hl, hs, lt_irrefl, if_false, Prod.mk.injEq, true_and]
  simp only [decide_toNat]
  constructor <;> split_ifs <;> omega

/-- A place in the frame is a dot of the line it says. -/
theorem eq_lineStart {r : Region} {t : PpuTiming} (h : inFrame r t = true) :
    lineInFrame r t < frameLines r ∧ t = { lineStart r (lineInFrame r t) with dot := t.dot } := by
  rcases t with ⟨ph, sl, dot⟩
  simp only [inFrame, Bool.and_eq_true, decide_eq_true_eq] at h
  have h := h.2
  rw [frameLines_eq]
  cases ph with
  | preRender =>
    simp only [decide_eq_true_eq] at h
    rw [show lineInFrame r ⟨.preRender, sl, dot⟩ = sl from rfl, lineStart, if_pos h]
    exact ⟨by omega, rfl⟩
  | visible line =>
    simp only [decide_eq_true_eq] at h
    have hl := line.isLt
    rw [show lineInFrame r ⟨.visible line, sl, dot⟩ = lastPreRenderLine r + 1 + line.val from rfl, lineStart,
      if_neg (by omega), dif_pos (by omega)]
    refine ⟨by omega, ?_⟩
    simp only [PpuTiming.mk.injEq, PpuPhase.visible.injEq, Fin.ext_iff, and_true]
    omega
  | postRender =>
    simp only [decide_eq_true_eq] at h
    rw [show lineInFrame r ⟨.postRender, sl, dot⟩ = lastPreRenderLine r + 241 + sl from rfl, lineStart,
      if_neg (by omega), dif_neg (by omega), if_pos (by omega)]
    refine ⟨by omega, ?_⟩
    simp only [PpuTiming.mk.injEq, true_and, and_true]
    omega
  | verticalBlank =>
    simp only [decide_eq_true_eq] at h
    rw [show lineInFrame r ⟨.verticalBlank, sl, dot⟩ = lastPreRenderLine r + 242 + lastPostRenderLine r + sl from rfl,
      lineStart, if_neg (by omega), dif_neg (by omega), if_neg (by omega)]
    refine ⟨by omega, ?_⟩
    simp only [PpuTiming.mk.injEq, true_and, and_true]
    omega

/-- Every place in the frame is reached from its first dot, in at most as many dots as the frame has. -/
theorem dotsRun_reaches {r : Region} {t : PpuTiming} (h : inFrame r t = true) :
    ∃ n e f, n ≤ frameDots r ∧ dotsRun r n frameStart = (t, e, f) := by
  obtain ⟨hl, ht⟩ := eq_lineStart h
  have hd : t.dot ≤ (lastDots r).getD (lineInFrame r t) 0 := by
    simp only [inFrame, Bool.and_eq_true, decide_eq_true_eq] at h
    exact h.1
  have hw := dotsRun_within r t.dot (lineStart r (lineInFrame r t))
    (by rw [lineStart_dot, Nat.zero_add, lastDot, lineInFrame_lineStart]; exact hd)
  rw [lineStart_dot, Nat.zero_add] at hw
  have h1 := dotsBefore_succ r hl
  have h2 := dotsBefore_le r (show lineInFrame r t + 1 ≤ frameLines r by omega)
  have h3 := dotsRun_add r (dotsBefore r (lineInFrame r t)) t.dot frameStart
  rw [dotsRun_lines r hl] at h3
  simp only [hw, ← ht] at h3
  exact ⟨_, _, _, by omega, h3⟩

/-- A frame's dots lead from any place in the frame back to it, with one VerticalBlank entry and one frame completed
(60_exceptions.md R554). -/
theorem dotsRun_frame {r : Region} {t : PpuTiming} (h : inFrame r t = true) : dotsRun r (frameDots r) t = (t, 1, 1) := by
  obtain ⟨n, e, f, hn, hr⟩ := dotsRun_reaches h
  obtain ⟨m, hm⟩ := Nat.exists_eq_add_of_le hn
  have h1 := dotsRun_frameStart r
  rw [hm, dotsRun_add, hr] at h1
  simp only [Prod.mk.injEq] at h1
  rw [hm, Nat.add_comm, dotsRun_add]
  simp only [h1.1, hr, Prod.mk.injEq, true_and]
  omega

end Sys2Proof.Machine
end

