-- ==== Sys2Proof/Laws/State.lean ====
section
/-! SUPPORT. One lemma per field per named update of State, true by definition, and the same for the flag updates, so that no
later proof unfolds a record update. -/

namespace Sys2Proof.Machine

@[simp] theorem advancePc_a (n : Nat) (s : State) : (advancePc n s).a = s.a := rfl
@[simp] theorem advancePc_x (n : Nat) (s : State) : (advancePc n s).x = s.x := rfl
@[simp] theorem advancePc_y (n : Nat) (s : State) : (advancePc n s).y = s.y := rfl
@[simp] theorem advancePc_sp (n : Nat) (s : State) : (advancePc n s).sp = s.sp := rfl
@[simp] theorem advancePc_pc (n : Nat) (s : State) : (advancePc n s).pc = s.pc + BitVec.ofNat 16 n := rfl
@[simp] theorem advancePc_p (n : Nat) (s : State) : (advancePc n s).p = s.p := rfl
@[simp] theorem advancePc_nmiPending (n : Nat) (s : State) : (advancePc n s).nmiPending = s.nmiPending := rfl
@[simp] theorem advancePc_irqPending (n : Nat) (s : State) : (advancePc n s).irqPending = s.irqPending := rfl
@[simp] theorem advancePc_halted (n : Nat) (s : State) : (advancePc n s).halted = s.halted := rfl
@[simp] theorem advancePc_running (n : Nat) (s : State) : (advancePc n s).running = s.running := rfl
@[simp] theorem advancePc_cycles (n : Nat) (s : State) : (advancePc n s).cycles = s.cycles := rfl
@[simp] theorem advancePc_ram (n : Nat) (s : State) : (advancePc n s).ram = s.ram := rfl
@[simp] theorem advancePc_dev (n : Nat) (s : State) : (advancePc n s).dev = s.dev := rfl
@[simp] theorem advancePc_session (n : Nat) (s : State) : (advancePc n s).session = s.session := rfl

@[simp] theorem withCycles_a (n : Nat) (s : State) : (withCycles n s).a = s.a := rfl
@[simp] theorem withCycles_x (n : Nat) (s : State) : (withCycles n s).x = s.x := rfl
@[simp] theorem withCycles_y (n : Nat) (s : State) : (withCycles n s).y = s.y := rfl
@[simp] theorem withCycles_sp (n : Nat) (s : State) : (withCycles n s).sp = s.sp := rfl
@[simp] theorem withCycles_pc (n : Nat) (s : State) : (withCycles n s).pc = s.pc := rfl
@[simp] theorem withCycles_p (n : Nat) (s : State) : (withCycles n s).p = s.p := rfl
@[simp] theorem withCycles_nmiPending (n : Nat) (s : State) : (withCycles n s).nmiPending = s.nmiPending := rfl
@[simp] theorem withCycles_irqPending (n : Nat) (s : State) : (withCycles n s).irqPending = s.irqPending := rfl
@[simp] theorem withCycles_halted (n : Nat) (s : State) : (withCycles n s).halted = s.halted := rfl
@[simp] theorem withCycles_running (n : Nat) (s : State) : (withCycles n s).running = s.running := rfl
@[simp] theorem withCycles_cycles (n : Nat) (s : State) : (withCycles n s).cycles = some n := rfl
@[simp] theorem withCycles_ram (n : Nat) (s : State) : (withCycles n s).ram = s.ram := rfl
@[simp] theorem withCycles_dev (n : Nat) (s : State) : (withCycles n s).dev = s.dev := rfl
@[simp] theorem withCycles_session (n : Nat) (s : State) : (withCycles n s).session = s.session := rfl

@[simp] theorem requestNmi_a (s : State) : (requestNmi s).a = s.a := rfl
@[simp] theorem requestNmi_x (s : State) : (requestNmi s).x = s.x := rfl
@[simp] theorem requestNmi_y (s : State) : (requestNmi s).y = s.y := rfl
@[simp] theorem requestNmi_sp (s : State) : (requestNmi s).sp = s.sp := rfl
@[simp] theorem requestNmi_pc (s : State) : (requestNmi s).pc = s.pc := rfl
@[simp] theorem requestNmi_p (s : State) : (requestNmi s).p = s.p := rfl
@[simp] theorem requestNmi_nmiPending (s : State) : (requestNmi s).nmiPending = true := rfl
@[simp] theorem requestNmi_irqPending (s : State) : (requestNmi s).irqPending = s.irqPending := rfl
@[simp] theorem requestNmi_halted (s : State) : (requestNmi s).halted = s.halted := rfl
@[simp] theorem requestNmi_running (s : State) : (requestNmi s).running = s.running := rfl
@[simp] theorem requestNmi_cycles (s : State) : (requestNmi s).cycles = s.cycles := rfl
@[simp] theorem requestNmi_ram (s : State) : (requestNmi s).ram = s.ram := rfl
@[simp] theorem requestNmi_dev (s : State) : (requestNmi s).dev = s.dev := rfl
@[simp] theorem requestNmi_session (s : State) : (requestNmi s).session = s.session := rfl

@[simp] theorem requestIrq_a (s : State) : (requestIrq s).a = s.a := rfl
@[simp] theorem requestIrq_x (s : State) : (requestIrq s).x = s.x := rfl
@[simp] theorem requestIrq_y (s : State) : (requestIrq s).y = s.y := rfl
@[simp] theorem requestIrq_sp (s : State) : (requestIrq s).sp = s.sp := rfl
@[simp] theorem requestIrq_pc (s : State) : (requestIrq s).pc = s.pc := rfl
@[simp] theorem requestIrq_p (s : State) : (requestIrq s).p = s.p := rfl
@[simp] theorem requestIrq_nmiPending (s : State) : (requestIrq s).nmiPending = s.nmiPending := rfl
@[simp] theorem requestIrq_irqPending (s : State) : (requestIrq s).irqPending = true := rfl
@[simp] theorem requestIrq_halted (s : State) : (requestIrq s).halted = s.halted := rfl
@[simp] theorem requestIrq_running (s : State) : (requestIrq s).running = s.running := rfl
@[simp] theorem requestIrq_cycles (s : State) : (requestIrq s).cycles = s.cycles := rfl
@[simp] theorem requestIrq_ram (s : State) : (requestIrq s).ram = s.ram := rfl
@[simp] theorem requestIrq_dev (s : State) : (requestIrq s).dev = s.dev := rfl
@[simp] theorem requestIrq_session (s : State) : (requestIrq s).session = s.session := rfl

@[simp] theorem beginExecution_a (s : State) : (beginExecution s).a = s.a := rfl
@[simp] theorem beginExecution_x (s : State) : (beginExecution s).x = s.x := rfl
@[simp] theorem beginExecution_y (s : State) : (beginExecution s).y = s.y := rfl
@[simp] theorem beginExecution_sp (s : State) : (beginExecution s).sp = s.sp := rfl
@[simp] theorem beginExecution_pc (s : State) : (beginExecution s).pc = s.pc := rfl
@[simp] theorem beginExecution_p (s : State) : (beginExecution s).p = s.p := rfl
@[simp] theorem beginExecution_nmiPending (s : State) : (beginExecution s).nmiPending = s.nmiPending := rfl
@[simp] theorem beginExecution_irqPending (s : State) : (beginExecution s).irqPending = s.irqPending := rfl
@[simp] theorem beginExecution_halted (s : State) : (beginExecution s).halted = s.halted := rfl
@[simp] theorem beginExecution_running (s : State) : (beginExecution s).running = true := rfl
@[simp] theorem beginExecution_cycles (s : State) : (beginExecution s).cycles = s.cycles := rfl
@[simp] theorem beginExecution_ram (s : State) : (beginExecution s).ram = s.ram := rfl
@[simp] theorem beginExecution_dev (s : State) : (beginExecution s).dev = s.dev := rfl
@[simp] theorem beginExecution_session (s : State) : (beginExecution s).session = s.session := rfl

@[simp] theorem endExecution_a (s : State) : (endExecution s).a = s.a := rfl
@[simp] theorem endExecution_x (s : State) : (endExecution s).x = s.x := rfl
@[simp] theorem endExecution_y (s : State) : (endExecution s).y = s.y := rfl
@[simp] theorem endExecution_sp (s : State) : (endExecution s).sp = s.sp := rfl
@[simp] theorem endExecution_pc (s : State) : (endExecution s).pc = s.pc := rfl
@[simp] theorem endExecution_p (s : State) : (endExecution s).p = s.p := rfl
@[simp] theorem endExecution_nmiPending (s : State) : (endExecution s).nmiPending = s.nmiPending := rfl
@[simp] theorem endExecution_irqPending (s : State) : (endExecution s).irqPending = s.irqPending := rfl
@[simp] theorem endExecution_halted (s : State) : (endExecution s).halted = s.halted := rfl
@[simp] theorem endExecution_running (s : State) : (endExecution s).running = false := rfl
@[simp] theorem endExecution_cycles (s : State) : (endExecution s).cycles = s.cycles := rfl
@[simp] theorem endExecution_ram (s : State) : (endExecution s).ram = s.ram := rfl
@[simp] theorem endExecution_dev (s : State) : (endExecution s).dev = s.dev := rfl
@[simp] theorem endExecution_session (s : State) : (endExecution s).session = s.session := rfl

@[simp] theorem loadA_a (m : Byte) (s : State) : (loadA m s).a = m := rfl
@[simp] theorem loadA_x (m : Byte) (s : State) : (loadA m s).x = s.x := rfl
@[simp] theorem loadA_y (m : Byte) (s : State) : (loadA m s).y = s.y := rfl
@[simp] theorem loadA_sp (m : Byte) (s : State) : (loadA m s).sp = s.sp := rfl
@[simp] theorem loadA_pc (m : Byte) (s : State) : (loadA m s).pc = s.pc := rfl
@[simp] theorem loadA_p (m : Byte) (s : State) : (loadA m s).p = setNZ m s.p := rfl
@[simp] theorem loadA_nmiPending (m : Byte) (s : State) : (loadA m s).nmiPending = s.nmiPending := rfl
@[simp] theorem loadA_irqPending (m : Byte) (s : State) : (loadA m s).irqPending = s.irqPending := rfl
@[simp] theorem loadA_halted (m : Byte) (s : State) : (loadA m s).halted = s.halted := rfl
@[simp] theorem loadA_running (m : Byte) (s : State) : (loadA m s).running = s.running := rfl
@[simp] theorem loadA_cycles (m : Byte) (s : State) : (loadA m s).cycles = s.cycles := rfl
@[simp] theorem loadA_ram (m : Byte) (s : State) : (loadA m s).ram = s.ram := rfl
@[simp] theorem loadA_dev (m : Byte) (s : State) : (loadA m s).dev = s.dev := rfl
@[simp] theorem loadA_session (m : Byte) (s : State) : (loadA m s).session = s.session := rfl

@[simp] theorem loadX_a (m : Byte) (s : State) : (loadX m s).a = s.a := rfl
@[simp] theorem loadX_x (m : Byte) (s : State) : (loadX m s).x = m := rfl
@[simp] theorem loadX_y (m : Byte) (s : State) : (loadX m s).y = s.y := rfl
@[simp] theorem loadX_sp (m : Byte) (s : State) : (loadX m s).sp = s.sp := rfl
@[simp] theorem loadX_pc (m : Byte) (s : State) : (loadX m s).pc = s.pc := rfl
@[simp] theorem loadX_p (m : Byte) (s : State) : (loadX m s).p = setNZ m s.p := rfl
@[simp] theorem loadX_nmiPending (m : Byte) (s : State) : (loadX m s).nmiPending = s.nmiPending := rfl
@[simp] theorem loadX_irqPending (m : Byte) (s : State) : (loadX m s).irqPending = s.irqPending := rfl
@[simp] theorem loadX_halted (m : Byte) (s : State) : (loadX m s).halted = s.halted := rfl
@[simp] theorem loadX_running (m : Byte) (s : State) : (loadX m s).running = s.running := rfl
@[simp] theorem loadX_cycles (m : Byte) (s : State) : (loadX m s).cycles = s.cycles := rfl
@[simp] theorem loadX_ram (m : Byte) (s : State) : (loadX m s).ram = s.ram := rfl
@[simp] theorem loadX_dev (m : Byte) (s : State) : (loadX m s).dev = s.dev := rfl
@[simp] theorem loadX_session (m : Byte) (s : State) : (loadX m s).session = s.session := rfl

@[simp] theorem loadY_a (m : Byte) (s : State) : (loadY m s).a = s.a := rfl
@[simp] theorem loadY_x (m : Byte) (s : State) : (loadY m s).x = s.x := rfl
@[simp] theorem loadY_y (m : Byte) (s : State) : (loadY m s).y = m := rfl
@[simp] theorem loadY_sp (m : Byte) (s : State) : (loadY m s).sp = s.sp := rfl
@[simp] theorem loadY_pc (m : Byte) (s : State) : (loadY m s).pc = s.pc := rfl
@[simp] theorem loadY_p (m : Byte) (s : State) : (loadY m s).p = setNZ m s.p := rfl
@[simp] theorem loadY_nmiPending (m : Byte) (s : State) : (loadY m s).nmiPending = s.nmiPending := rfl
@[simp] theorem loadY_irqPending (m : Byte) (s : State) : (loadY m s).irqPending = s.irqPending := rfl
@[simp] theorem loadY_halted (m : Byte) (s : State) : (loadY m s).halted = s.halted := rfl
@[simp] theorem loadY_running (m : Byte) (s : State) : (loadY m s).running = s.running := rfl
@[simp] theorem loadY_cycles (m : Byte) (s : State) : (loadY m s).cycles = s.cycles := rfl
@[simp] theorem loadY_ram (m : Byte) (s : State) : (loadY m s).ram = s.ram := rfl
@[simp] theorem loadY_dev (m : Byte) (s : State) : (loadY m s).dev = s.dev := rfl
@[simp] theorem loadY_session (m : Byte) (s : State) : (loadY m s).session = s.session := rfl

@[simp] theorem setA_a (r : Byte) (s : State) : (setA r s).a = r := rfl
@[simp] theorem setA_x (r : Byte) (s : State) : (setA r s).x = s.x := rfl
@[simp] theorem setA_y (r : Byte) (s : State) : (setA r s).y = s.y := rfl
@[simp] theorem setA_sp (r : Byte) (s : State) : (setA r s).sp = s.sp := rfl
@[simp] theorem setA_pc (r : Byte) (s : State) : (setA r s).pc = s.pc := rfl
@[simp] theorem setA_p (r : Byte) (s : State) : (setA r s).p = setNZ r s.p := rfl
@[simp] theorem setA_nmiPending (r : Byte) (s : State) : (setA r s).nmiPending = s.nmiPending := rfl
@[simp] theorem setA_irqPending (r : Byte) (s : State) : (setA r s).irqPending = s.irqPending := rfl
@[simp] theorem setA_halted (r : Byte) (s : State) : (setA r s).halted = s.halted := rfl
@[simp] theorem setA_running (r : Byte) (s : State) : (setA r s).running = s.running := rfl
@[simp] theorem setA_cycles (r : Byte) (s : State) : (setA r s).cycles = s.cycles := rfl
@[simp] theorem setA_ram (r : Byte) (s : State) : (setA r s).ram = s.ram := rfl
@[simp] theorem setA_dev (r : Byte) (s : State) : (setA r s).dev = s.dev := rfl
@[simp] theorem setA_session (r : Byte) (s : State) : (setA r s).session = s.session := rfl

@[simp] theorem adcA_a (m : Byte) (s : State) : (adcA m s).a = addByte s.a m s.p.c := rfl
@[simp] theorem adcA_x (m : Byte) (s : State) : (adcA m s).x = s.x := rfl
@[simp] theorem adcA_y (m : Byte) (s : State) : (adcA m s).y = s.y := rfl
@[simp] theorem adcA_sp (m : Byte) (s : State) : (adcA m s).sp = s.sp := rfl
@[simp] theorem adcA_pc (m : Byte) (s : State) : (adcA m s).pc = s.pc := rfl
@[simp] theorem adcA_p (m : Byte) (s : State) : (adcA m s).p = addFlags s.a m s.p := rfl
@[simp] theorem adcA_nmiPending (m : Byte) (s : State) : (adcA m s).nmiPending = s.nmiPending := rfl
@[simp] theorem adcA_irqPending (m : Byte) (s : State) : (adcA m s).irqPending = s.irqPending := rfl
@[simp] theorem adcA_halted (m : Byte) (s : State) : (adcA m s).halted = s.halted := rfl
@[simp] theorem adcA_running (m : Byte) (s : State) : (adcA m s).running = s.running := rfl
@[simp] theorem adcA_cycles (m : Byte) (s : State) : (adcA m s).cycles = s.cycles := rfl
@[simp] theorem adcA_ram (m : Byte) (s : State) : (adcA m s).ram = s.ram := rfl
@[simp] theorem adcA_dev (m : Byte) (s : State) : (adcA m s).dev = s.dev := rfl
@[simp] theorem adcA_session (m : Byte) (s : State) : (adcA m s).session = s.session := rfl

@[simp] theorem sbcA_a (m : Byte) (s : State) : (sbcA m s).a = addByte s.a (~~~m) s.p.c := rfl
@[simp] theorem sbcA_x (m : Byte) (s : State) : (sbcA m s).x = s.x := rfl
@[simp] theorem sbcA_y (m : Byte) (s : State) : (sbcA m s).y = s.y := rfl
@[simp] theorem sbcA_sp (m : Byte) (s : State) : (sbcA m s).sp = s.sp := rfl
@[simp] theorem sbcA_pc (m : Byte) (s : State) : (sbcA m s).pc = s.pc := rfl
@[simp] theorem sbcA_p (m : Byte) (s : State) : (sbcA m s).p = addFlags s.a (~~~m) s.p := rfl
@[simp] theorem sbcA_nmiPending (m : Byte) (s : State) : (sbcA m s).nmiPending = s.nmiPending := rfl
@[simp] theorem sbcA_irqPending (m : Byte) (s : State) : (sbcA m s).irqPending = s.irqPending := rfl
@[simp] theorem sbcA_halted (m : Byte) (s : State) : (sbcA m s).halted = s.halted := rfl
@[simp] theorem sbcA_running (m : Byte) (s : State) : (sbcA m s).running = s.running := rfl
@[simp] theorem sbcA_cycles (m : Byte) (s : State) : (sbcA m s).cycles = s.cycles := rfl
@[simp] theorem sbcA_ram (m : Byte) (s : State) : (sbcA m s).ram = s.ram := rfl
@[simp] theorem sbcA_dev (m : Byte) (s : State) : (sbcA m s).dev = s.dev := rfl
@[simp] theorem sbcA_session (m : Byte) (s : State) : (sbcA m s).session = s.session := rfl

@[simp] theorem placeInstr_a (bytes : List Byte) (s : State) : (placeInstr bytes s).a = s.a := rfl
@[simp] theorem placeInstr_x (bytes : List Byte) (s : State) : (placeInstr bytes s).x = s.x := rfl
@[simp] theorem placeInstr_y (bytes : List Byte) (s : State) : (placeInstr bytes s).y = s.y := rfl
@[simp] theorem placeInstr_sp (bytes : List Byte) (s : State) : (placeInstr bytes s).sp = s.sp := rfl
@[simp] theorem placeInstr_pc (bytes : List Byte) (s : State) : (placeInstr bytes s).pc = placeAddr := rfl
@[simp] theorem placeInstr_p (bytes : List Byte) (s : State) : (placeInstr bytes s).p = s.p := rfl
@[simp] theorem placeInstr_nmiPending (bytes : List Byte) (s : State) : (placeInstr bytes s).nmiPending = false := rfl
@[simp] theorem placeInstr_irqPending (bytes : List Byte) (s : State) : (placeInstr bytes s).irqPending = false := rfl
@[simp] theorem placeInstr_halted (bytes : List Byte) (s : State) : (placeInstr bytes s).halted = false := rfl
@[simp] theorem placeInstr_running (bytes : List Byte) (s : State) : (placeInstr bytes s).running = true := rfl
@[simp] theorem placeInstr_cycles (bytes : List Byte) (s : State) : (placeInstr bytes s).cycles = s.cycles := rfl
@[simp] theorem placeInstr_ram (bytes : List Byte) (s : State) : (placeInstr bytes s).ram = Memory.load (ramIndex placeAddr) bytes s.ram := rfl
@[simp] theorem placeInstr_dev (bytes : List Byte) (s : State) : (placeInstr bytes s).dev = s.dev := rfl
@[simp] theorem placeInstr_session (bytes : List Byte) (s : State) : (placeInstr bytes s).session = s.session := rfl

@[simp] theorem setNZ_n (r : Byte) (p : Flags) : (setNZ r p).n = r.getLsbD 7 := rfl
@[simp] theorem setNZ_v (r : Byte) (p : Flags) : (setNZ r p).v = p.v := rfl
@[simp] theorem setNZ_d (r : Byte) (p : Flags) : (setNZ r p).d = p.d := rfl
@[simp] theorem setNZ_i (r : Byte) (p : Flags) : (setNZ r p).i = p.i := rfl
@[simp] theorem setNZ_z (r : Byte) (p : Flags) : (setNZ r p).z = (r == 0) := rfl
@[simp] theorem setNZ_c (r : Byte) (p : Flags) : (setNZ r p).c = p.c := rfl

@[simp] theorem compareFlags_n (r m : Byte) (p : Flags) : (compareFlags r m p).n = (r - m).getLsbD 7 := rfl
@[simp] theorem compareFlags_v (r m : Byte) (p : Flags) : (compareFlags r m p).v = p.v := rfl
@[simp] theorem compareFlags_d (r m : Byte) (p : Flags) : (compareFlags r m p).d = p.d := rfl
@[simp] theorem compareFlags_i (r m : Byte) (p : Flags) : (compareFlags r m p).i = p.i := rfl
@[simp] theorem compareFlags_z (r m : Byte) (p : Flags) : (compareFlags r m p).z = (r == m) := rfl
@[simp] theorem compareFlags_c (r m : Byte) (p : Flags) : (compareFlags r m p).c = decide (m.toNat ≤ r.toNat) := rfl

@[simp] theorem bitFlags_n (a m : Byte) (p : Flags) : (bitFlags a m p).n = m.getLsbD 7 := rfl
@[simp] theorem bitFlags_v (a m : Byte) (p : Flags) : (bitFlags a m p).v = m.getLsbD 6 := rfl
@[simp] theorem bitFlags_d (a m : Byte) (p : Flags) : (bitFlags a m p).d = p.d := rfl
@[simp] theorem bitFlags_i (a m : Byte) (p : Flags) : (bitFlags a m p).i = p.i := rfl
@[simp] theorem bitFlags_z (a m : Byte) (p : Flags) : (bitFlags a m p).z = ((a &&& m) == 0) := rfl
@[simp] theorem bitFlags_c (a m : Byte) (p : Flags) : (bitFlags a m p).c = p.c := rfl

@[simp] theorem addFlags_n (a m : Byte) (p : Flags) : (addFlags a m p).n = (addByte a m p.c).getLsbD 7 := rfl
@[simp] theorem addFlags_v (a m : Byte) (p : Flags) : (addFlags a m p).v = (~~~(a ^^^ m) &&& (a ^^^ addByte a m p.c)).getLsbD 7 := rfl
@[simp] theorem addFlags_d (a m : Byte) (p : Flags) : (addFlags a m p).d = p.d := rfl
@[simp] theorem addFlags_i (a m : Byte) (p : Flags) : (addFlags a m p).i = p.i := rfl
@[simp] theorem addFlags_z (a m : Byte) (p : Flags) : (addFlags a m p).z = (addByte a m p.c == 0) := rfl
@[simp] theorem addFlags_c (a m : Byte) (p : Flags) : (addFlags a m p).c = decide (addSum a m p.c > 255) := rfl

@[simp] theorem ancFlags_n (a : Byte) (p : Flags) : (ancFlags a p).n = a.getLsbD 7 := rfl
@[simp] theorem ancFlags_v (a : Byte) (p : Flags) : (ancFlags a p).v = p.v := rfl
@[simp] theorem ancFlags_d (a : Byte) (p : Flags) : (ancFlags a p).d = p.d := rfl
@[simp] theorem ancFlags_i (a : Byte) (p : Flags) : (ancFlags a p).i = p.i := rfl
@[simp] theorem ancFlags_z (a : Byte) (p : Flags) : (ancFlags a p).z = (a == 0) := rfl
@[simp] theorem ancFlags_c (a : Byte) (p : Flags) : (ancFlags a p).c = a.getLsbD 7 := rfl

@[simp] theorem shiftLeft_fst (v : Byte) (p : Flags) : (shiftLeft v p).1 = v <<< 1 := rfl
@[simp] theorem shiftLeft_snd (v : Byte) (p : Flags) : (shiftLeft v p).2 = { p with c := v.getLsbD 7 } := rfl
@[simp] theorem shiftRight_fst (v : Byte) (p : Flags) : (shiftRight v p).1 = v >>> 1 := rfl
@[simp] theorem shiftRight_snd (v : Byte) (p : Flags) : (shiftRight v p).2 = { p with c := v.getLsbD 0 } := rfl
@[simp] theorem rotateLeft_fst (v : Byte) (p : Flags) : (rotateLeft v p).1 = (v <<< 1) + bit p.c := rfl
@[simp] theorem rotateLeft_snd (v : Byte) (p : Flags) : (rotateLeft v p).2 = { p with c := v.getLsbD 7 } := rfl
@[simp] theorem rotateRight_fst (v : Byte) (p : Flags) : (rotateRight v p).1 = (v >>> 1) + (bit p.c <<< 7) := rfl
@[simp] theorem rotateRight_snd (v : Byte) (p : Flags) : (rotateRight v p).2 = { p with c := v.getLsbD 0 } := rfl
@[simp] theorem increment_fst (v : Byte) (p : Flags) : (increment v p).1 = v + 1 := rfl
@[simp] theorem increment_snd (v : Byte) (p : Flags) : (increment v p).2 = p := rfl
@[simp] theorem decrement_fst (v : Byte) (p : Flags) : (decrement v p).1 = v - 1 := rfl
@[simp] theorem decrement_snd (v : Byte) (p : Flags) : (decrement v p).2 = p := rfl

/-- `UnpackP` after `PackP` gives the flags back, whatever B was (10_state.md R58). -/
@[simp] theorem unpackP_packP (b : Bool) (p : Flags) : unpackP (packP b p) = p := by
  rcases p with ⟨n, v, d, i, z, c⟩
  cases b <;> cases n <;> cases v <;> cases d <;> cases i <;> cases z <;> cases c <;> rfl

end Sys2Proof.Machine
end

