-- ==== Sys2Proof/Laws/Ops.lean ====
section
/-! SUPPORT. What each named operation of Machine/Ops.lean can do, said once: a memory read changes at most the devices, a
memory write at most RAM or the devices and a pending IRQ, and each stack operation stays in the RAM page $0100-$01FF. -/

namespace Sys2Proof.Machine

theorem isRam_iff (a : Word) : isRam a = true ↔ a.toNat < 0x2000 := by simp [isRam]

theorem ramIndex_lt (a : Word) : ramIndex a < 0x800 := Nat.mod_lt _ (by decide)

@[simp] theorem isRam_zext16 (b : Byte) : isRam (zext16 b) = true := by
  have := b.isLt
  rw [isRam_iff, zext16_toNat]
  omega

@[simp] theorem ramIndex_zext16 (b : Byte) : ramIndex (zext16 b) = b.toNat := by
  have := b.isLt
  simp only [ramIndex, zext16_toNat]
  omega

@[simp] theorem stackAddr_toNat (sp : Byte) : (stackAddr sp).toNat = 0x100 + sp.toNat := by
  have := sp.isLt
  simp only [stackAddr, BitVec.toNat_add, zext16_toNat]
  simp
  omega

@[simp] theorem isRam_stackAddr (sp : Byte) : isRam (stackAddr sp) = true := by
  have := sp.isLt
  rw [isRam_iff, stackAddr_toNat]
  omega

@[simp] theorem ramIndex_stackAddr (sp : Byte) : ramIndex (stackAddr sp) = 0x100 + sp.toNat := by
  have := sp.isLt
  simp only [ramIndex, stackAddr_toNat]
  omega

/-- A read of RAM gives the physical byte and changes nothing (20_memory.md R103, R108). -/
theorem memRead_ram {a : Word} (h : isRam a = true) (s : State) : memRead a s = (Memory.read s.ram (ramIndex a), s) := by
  simp [memRead, h]

/-- A read above RAM is a bus read (R103). -/
theorem memRead_bus {a : Word} (h : isRam a = false) (s : State) :
    memRead a s = ((busRead s.dev a).1, { s with dev := (busRead s.dev a).2 }) := by
  simp [memRead, h]

/-- A write of RAM changes the one physical byte (R103, R111). -/
theorem memWrite_ram {a : Word} (h : isRam a = true) (v : Byte) (s : State) :
    memWrite a v s = { s with ram := Memory.write s.ram (ramIndex a) v } := by
  simp [memWrite, h]

/-- A write above RAM is a bus write (R103). -/
theorem memWrite_bus {a : Word} (h : isRam a = false) (v : Byte) (s : State) :
    memWrite a v s =
      { s with dev := (busWrite s.dev a v).2, irqPending := s.irqPending || (busWrite s.dev a v).1 } := by
  simp [memWrite, h]

/-- A memory read changes at most the devices; it keeps them well formed, keeps the cartridge, and only lengthens the history;
with the same history they are the same. -/
theorem memRead_state (a : Word) (s : State) : ∃ d, (memRead a s).2 = { s with dev := d } ∧
    (∀ g, Devices.wf g s.dev = true → Devices.wf g d = true) ∧ d.cart = s.dev.cart ∧ s.dev.events <:+ d.events ∧
      (d.events = s.dev.events → d = s.dev) := by
  by_cases h : isRam a = true
  · rw [memRead_ram h]
    exact ⟨s.dev, rfl, fun _ => id, rfl, List.suffix_refl _, fun _ => rfl⟩
  · rw [Bool.not_eq_true] at h
    rw [memRead_bus h]
    exact ⟨_, rfl, fun _ hw => busRead_wf hw a, busRead_cart _ _, busRead_suffix _ _, busRead_quiet _ _⟩

/-- A memory write changes at most one RAM byte, or the devices and the pending IRQ; it keeps both in form. -/
theorem memWrite_state (a : Word) (v : Byte) (s : State) : ∃ r d q,
    memWrite a v s = { s with ram := r, dev := d, irqPending := s.irqPending || q } ∧
      (Memory.wf 0x800 s.ram = true → Memory.wf 0x800 r = true) ∧ (∀ g, Devices.wf g s.dev = true → Devices.wf g d = true) ∧
      d.cart = s.dev.cart ∧ s.dev.events <:+ d.events ∧ (d.events = s.dev.events → d = s.dev ∧ q = false) := by
  by_cases h : isRam a = true
  · rw [memWrite_ram h]
    refine ⟨_, s.dev, false, ?_, fun hw => Memory.wf_write hw _ v (ramIndex_lt a), fun _ => id, rfl, List.suffix_refl _,
      fun _ => ⟨rfl, rfl⟩⟩
    simp
  · rw [Bool.not_eq_true] at h
    rw [memWrite_bus h]
    refine ⟨s.ram, _, _, rfl, id, fun _ hw => busWrite_wf hw a v, busWrite_cart _ _ _, busWrite_suffix _ _ _, ?_⟩
    intro he
    have := busWrite_quiet _ _ _ he
    exact ⟨by rw [this], by rw [this]⟩

/-- With no cartridge a read at $2000 or above is one event of the history, and a RAM read none (20_memory.md R107, R108). -/
theorem memRead_events (a : Word) {s : State} (h : s.dev.cart = none) :
    (memRead a s).2.dev.events = if a.toNat < 0x2000 then s.dev.events else .read a :: s.dev.events := by
  split
  · rename_i ha
    rw [memRead_ram (by simp [isRam]; omega)]
  · rename_i ha
    rw [memRead_bus (by simp [isRam]; omega)]
    simp [busRead, fixedBank?, h]

/-- With no cartridge a write at $2000 or above is one event of the history, and a RAM write none. -/
theorem memWrite_events (a : Word) (v : Byte) {s : State} (h : s.dev.cart = none) :
    (memWrite a v s).dev.events = if a.toNat < 0x2000 then s.dev.events else .write a v :: s.dev.events := by
  split
  · rename_i ha
    rw [memWrite_ram (by simp [isRam]; omega)]
  · rename_i ha
    rw [memWrite_bus (by simp [isRam]; omega)]
    simp [busWrite, fixedBank?, h]

section fields
variable (a : Word) (v : Byte) (s : State)

@[simp] theorem memRead_a : (memRead a s).2.a = s.a := by obtain ⟨d, h, -⟩ := memRead_state a s; rw [h]
@[simp] theorem memRead_x : (memRead a s).2.x = s.x := by obtain ⟨d, h, -⟩ := memRead_state a s; rw [h]
@[simp] theorem memRead_y : (memRead a s).2.y = s.y := by obtain ⟨d, h, -⟩ := memRead_state a s; rw [h]
@[simp] theorem memRead_sp : (memRead a s).2.sp = s.sp := by obtain ⟨d, h, -⟩ := memRead_state a s; rw [h]
@[simp] theorem memRead_pc : (memRead a s).2.pc = s.pc := by obtain ⟨d, h, -⟩ := memRead_state a s; rw [h]
@[simp] theorem memRead_p : (memRead a s).2.p = s.p := by obtain ⟨d, h, -⟩ := memRead_state a s; rw [h]
@[simp] theorem memRead_nmiPending : (memRead a s).2.nmiPending = s.nmiPending := by
  obtain ⟨d, h, -⟩ := memRead_state a s; rw [h]
@[simp] theorem memRead_irqPending : (memRead a s).2.irqPending = s.irqPending := by
  obtain ⟨d, h, -⟩ := memRead_state a s; rw [h]
@[simp] theorem memRead_halted : (memRead a s).2.halted = s.halted := by
  obtain ⟨d, h, -⟩ := memRead_state a s; rw [h]
@[simp] theorem memRead_running : (memRead a s).2.running = s.running := by
  obtain ⟨d, h, -⟩ := memRead_state a s; rw [h]
@[simp] theorem memRead_cycles : (memRead a s).2.cycles = s.cycles := by
  obtain ⟨d, h, -⟩ := memRead_state a s; rw [h]
@[simp] theorem memRead_ram' : (memRead a s).2.ram = s.ram := by obtain ⟨d, h, -⟩ := memRead_state a s; rw [h]
@[simp] theorem memRead_session : (memRead a s).2.session = s.session := by
  obtain ⟨d, h, -⟩ := memRead_state a s; rw [h]

@[simp] theorem memWrite_a : (memWrite a v s).a = s.a := by obtain ⟨r, d, q, h, -⟩ := memWrite_state a v s; rw [h]
@[simp] theorem memWrite_x : (memWrite a v s).x = s.x := by obtain ⟨r, d, q, h, -⟩ := memWrite_state a v s; rw [h]
@[simp] theorem memWrite_y : (memWrite a v s).y = s.y := by obtain ⟨r, d, q, h, -⟩ := memWrite_state a v s; rw [h]
@[simp] theorem memWrite_sp : (memWrite a v s).sp = s.sp := by obtain ⟨r, d, q, h, -⟩ := memWrite_state a v s; rw [h]
@[simp] theorem memWrite_pc : (memWrite a v s).pc = s.pc := by obtain ⟨r, d, q, h, -⟩ := memWrite_state a v s; rw [h]
@[simp] theorem memWrite_p : (memWrite a v s).p = s.p := by obtain ⟨r, d, q, h, -⟩ := memWrite_state a v s; rw [h]
@[simp] theorem memWrite_nmiPending : (memWrite a v s).nmiPending = s.nmiPending := by
  obtain ⟨r, d, q, h, -⟩ := memWrite_state a v s; rw [h]
@[simp] theorem memWrite_halted : (memWrite a v s).halted = s.halted := by
  obtain ⟨r, d, q, h, -⟩ := memWrite_state a v s; rw [h]
@[simp] theorem memWrite_running : (memWrite a v s).running = s.running := by
  obtain ⟨r, d, q, h, -⟩ := memWrite_state a v s; rw [h]
@[simp] theorem memWrite_cycles : (memWrite a v s).cycles = s.cycles := by
  obtain ⟨r, d, q, h, -⟩ := memWrite_state a v s; rw [h]
@[simp] theorem memWrite_session : (memWrite a v s).session = s.session := by
  obtain ⟨r, d, q, h, -⟩ := memWrite_state a v s; rw [h]

end fields

/-- The byte a read of RAM gives (R103). -/
theorem peek_ram {a : Word} (h : isRam a = true) (s : State) : peek a s = Memory.read s.ram (ramIndex a) := by
  rw [peek, memRead_ram h]

/-- The byte a read of the Bus gives depends on the devices alone (R103). -/
theorem peek_bus {a : Word} (h : isRam a = false) (s : State) : peek a s = (busRead s.dev a).1 := by
  rw [peek, memRead_bus h]

/-- Two states with the same RAM and devices read the same everywhere. -/
theorem peek_congr {s t : State} (hr : t.ram = s.ram) (hd : t.dev = s.dev) (a : Word) : peek a t = peek a s := by
  by_cases h : isRam a = true
  · rw [peek_ram h, peek_ram h, hr]
  · rw [Bool.not_eq_true] at h
    rw [peek_bus h, peek_bus h, hd]

/-- A push, as a state (00_scope.md R17, 20_memory.md R117). -/
theorem push_eq (v : Byte) (s : State) :
    push v s = { s with ram := Memory.write s.ram (0x100 + s.sp.toNat) v, sp := s.sp - 1 } := by
  simp only [push, memWrite_ram (isRam_stackAddr s.sp), ramIndex_stackAddr]

/-- A pull, as a byte and a state (R17, R117). -/
theorem pull_eq (s : State) :
    pull s = (Memory.read s.ram (0x100 + (s.sp + 1).toNat), { s with sp := s.sp + 1 }) := by
  simp only [pull, memRead_ram (isRam_stackAddr _), ramIndex_stackAddr]

/-- A zero-page pointer read, as a word; nothing changes (R17). -/
theorem read16Zp_eq (z : Byte) (s : State) :
    read16Zp z s = (word (Memory.read s.ram (z + 1).toNat) (Memory.read s.ram z.toNat), s) := by
  simp only [read16Zp, memRead_ram (isRam_zext16 _), ramIndex_zext16]

/-- Reading a word changes at most the devices. -/
theorem read16_state (a : Word) (s : State) : ∃ d, (read16 a s).2 = { s with dev := d } ∧
    (∀ g, Devices.wf g s.dev = true → Devices.wf g d = true) ∧ d.cart = s.dev.cart ∧ s.dev.events <:+ d.events ∧
      (d.events = s.dev.events → d = s.dev) := by
  obtain ⟨d1, h1, w1, c1, e1, q1⟩ := memRead_state a s
  obtain ⟨d2, h2, w2, c2, e2, q2⟩ := memRead_state (a + 1) (memRead a s).2
  refine ⟨d2, ?_, ?_, ?_, ?_, ?_⟩
  · simp only [read16]
    rw [h2, h1]
  · intro g h
    rw [h1] at w2
    exact w2 g (w1 g h)
  · rw [h1] at c2
    rw [c2]
    exact c1
  · rw [h1] at e2
    exact e1.trans e2
  · intro h
    rw [h1] at e2 q2
    have hl : d1.events = s.dev.events := by
      refine (List.IsSuffix.eq_of_length_le e1 ?_).symm
      rw [← h]
      exact e2.length_le
    rw [q2 (h.trans hl.symm)]
    exact q1 hl

/-- The operations keep the invariant of State. -/
theorem memRead_inv (a : Word) {s : State} (h : s.Inv) : (memRead a s).2.Inv := by
  obtain ⟨d, he, hw, -⟩ := memRead_state a s
  rw [he]
  exact ⟨h.1, hw _ h.2⟩

theorem memWrite_inv (a : Word) (v : Byte) {s : State} (h : s.Inv) : (memWrite a v s).Inv := by
  obtain ⟨r, d, q, he, hr, hd, -⟩ := memWrite_state a v s
  rw [he]
  exact ⟨hr h.1, hd _ h.2⟩

theorem read16_inv (a : Word) {s : State} (h : s.Inv) : (read16 a s).2.Inv := memRead_inv _ (memRead_inv _ h)

theorem push_inv (v : Byte) {s : State} (h : s.Inv) : (push v s).Inv := by
  rw [push_eq]
  have := s.sp.isLt
  exact ⟨Memory.wf_write h.1 _ v (by omega), h.2⟩

theorem pull_inv {s : State} (h : s.Inv) : (pull s).2.Inv := by
  rw [pull_eq]
  exact h

theorem pushWord_inv (w : Word) {s : State} (h : s.Inv) : (pushWord w s).Inv := push_inv _ (push_inv _ h)

theorem pullWord_inv {s : State} (h : s.Inv) : (pullWord s).2.Inv := pull_inv (pull_inv h)

/-- An update of registers and flags alone keeps the invariant. -/
theorem Inv_congr {s t : State} (h : s.Inv) (hr : t.ram = s.ram) (hd : t.dev = s.dev) (hs : t.session = s.session) :
    t.Inv := by
  unfold State.Inv
  rw [hr, hd, hs]
  exact h

/-- Two pushes, as a state (20_memory.md R115, R117). -/
theorem pushWord_eq (w : Word) (s : State) :
    pushWord w s =
      { s with
        ram := Memory.write (Memory.write s.ram (0x100 + s.sp.toNat) (hi8 w)) (0x100 + (s.sp - 1).toNat) (lo8 w)
        sp := s.sp - 2 } := by
  have h : s.sp - 1 - 1 = s.sp - 2 := by bv_omega
  simp only [pushWord, push_eq, h]

/-- Two pulls, as a word and a state. -/
theorem pullWord_eq (s : State) :
    pullWord s =
      (word (Memory.read s.ram (0x100 + (s.sp + 2).toNat)) (Memory.read s.ram (0x100 + (s.sp + 1).toNat)),
        { s with sp := s.sp + 2 }) := by
  have h : s.sp + 1 + 1 = s.sp + 2 := by bv_omega
  simp only [pullWord, pull_eq, h]

/-- The state in which an interrupt entry reads its vector: three bytes pushed, I set (60_exceptions.md R519). -/
def entryFrame (ret : Word) (b : Bool) (s : State) : State :=
  { s with
    ram :=
      Memory.write
        (Memory.write (Memory.write s.ram (0x100 + s.sp.toNat) (hi8 ret)) (0x100 + (s.sp - 1).toNat) (lo8 ret))
        (0x100 + (s.sp - 2).toNat) (packP b s.p)
    sp := s.sp - 3
    p := { s.p with i := true } }

/-- An interrupt entry is the three pushes with I set, then PC from the vector (R519). -/
theorem enterInterrupt_eq (vector ret : Word) (b : Bool) (s : State) :
    enterInterrupt vector ret b s =
      { (read16 vector (entryFrame ret b s)).2 with pc := (read16 vector (entryFrame ret b s)).1 } := by
  have h : s.sp - 2 - 1 = s.sp - 3 := by bv_omega
  have he : ({ push (packP b (pushWord ret s).p) (pushWord ret s) with
      p := { (push (packP b (pushWord ret s).p) (pushWord ret s)).p with i := true } } : State) = entryFrame ret b s := by
    simp only [pushWord_eq, push_eq, entryFrame, h]
  unfold enterInterrupt
  simp only [he]

/-- A return from interrupt, as a state: three pulls (48_flags_system.md R410). -/
theorem returnFromInterrupt_eq (s : State) :
    returnFromInterrupt s =
      { s with
        p := unpackP (Memory.read s.ram (0x100 + (s.sp + 1).toNat))
        sp := s.sp + 3
        pc := word (Memory.read s.ram (0x100 + (s.sp + 3).toNat)) (Memory.read s.ram (0x100 + (s.sp + 2).toNat)) } := by
  have h1 : s.sp + 1 + 1 = s.sp + 2 := by bv_omega
  have h2 : s.sp + 1 + 2 = s.sp + 3 := by bv_omega
  simp only [returnFromInterrupt, pull_eq, pullWord_eq, h1, h2]

theorem entryFrame_inv (ret : Word) (b : Bool) {s : State} (h : s.Inv) : (entryFrame ret b s).Inv := by
  have h0 := s.sp.isLt
  have h1 := (s.sp - 1).isLt
  have h2 := (s.sp - 2).isLt
  exact ⟨Memory.wf_write (Memory.wf_write (Memory.wf_write h.1 _ _ (by omega)) _ _ (by omega)) _ _ (by omega), h.2⟩

theorem enterInterrupt_inv (vector ret : Word) (b : Bool) {s : State} (h : s.Inv) :
    (enterInterrupt vector ret b s).Inv := by
  rw [enterInterrupt_eq]
  have h1 := read16_inv vector (entryFrame_inv ret b h)
  exact ⟨h1.1, h1.2⟩

theorem returnFromInterrupt_inv {s : State} (h : s.Inv) : (returnFromInterrupt s).Inv := by
  rw [returnFromInterrupt_eq]
  exact ⟨h.1, h.2⟩

theorem poll_inv {s : State} (h : s.Inv) : (poll s).2.Inv := by
  unfold poll
  split
  · exact enterInterrupt_inv _ _ _ (Inv_congr h rfl rfl rfl)
  · split
    · exact enterInterrupt_inv _ _ _ (Inv_congr h rfl rfl rfl)
    · exact h

theorem fetch_inv {s : State} (h : s.Inv) : (fetch s).2.Inv := by
  unfold fetch
  simp only
  split <;> split
  · exact memRead_inv _ (memRead_inv _ (memRead_inv _ h))
  · exact memRead_inv _ (memRead_inv _ h)
  · exact memRead_inv _ (memRead_inv _ h)
  · exact memRead_inv _ h

end Sys2Proof.Machine
end

