-- ==== Sys2Proof/Laws/Operands.lean ====
section
/-! SUPPORT. What an operand form and an access class can do, said once: an effective address reads at most its pointer, a
read class changes at most the devices before its effect, a write class makes one write, a read-modify-write one read and
one write. -/

namespace Sys2Proof.Machine

/-- What a read can leave behind: the same state but for the devices, which stay well formed, keep their cartridge, only gain
events, and are the same where the history is. -/
def ReadOnly (s t : State) : Prop :=
  ∃ d, t = { s with dev := d } ∧ (∀ g, Devices.wf g s.dev = true → Devices.wf g d = true) ∧ d.cart = s.dev.cart ∧
    s.dev.events <:+ d.events ∧ (d.events = s.dev.events → d = s.dev)

theorem ReadOnly.refl (s : State) : ReadOnly s s := ⟨s.dev, rfl, fun _ => id, rfl, List.suffix_refl _, fun _ => rfl⟩

theorem ReadOnly.trans {s t u : State} (h : ReadOnly s t) (k : ReadOnly t u) : ReadOnly s u := by
  obtain ⟨d, rfl, w1, c1, e1, q1⟩ := h
  obtain ⟨d', rfl, w2, c2, e2, q2⟩ := k
  refine ⟨d', rfl, fun g hw => w2 g (w1 g hw), c2.trans c1, e1.trans e2, fun he => ?_⟩
  have hl : d.events = s.dev.events := by
    refine (List.IsSuffix.eq_of_length_le e1 ?_).symm
    rw [← he]
    exact e2.length_le
  exact (q2 (he.trans hl.symm)).trans (q1 hl)

theorem ReadOnly.inv {s t : State} (h : ReadOnly s t) (hs : s.Inv) : t.Inv := by
  obtain ⟨d, rfl, w, -⟩ := h
  exact ⟨hs.1, w _ hs.2⟩

/-- A memory read leaves behind what a read can (20_memory.md R103). -/
theorem memRead_readOnly (a : Word) (s : State) : ReadOnly s (memRead a s).2 := memRead_state a s

section modes
variable (s : State) (b : Byte) (w : Word)

@[simp] theorem effAddr_zp : effAddr (.zp b) s = ⟨zext16 b, false, s⟩ := rfl
@[simp] theorem effAddr_zpx : effAddr (.zpx b) s = ⟨zext16 (b + s.x), false, s⟩ := rfl
@[simp] theorem effAddr_zpy : effAddr (.zpy b) s = ⟨zext16 (b + s.y), false, s⟩ := rfl
@[simp] theorem effAddr_abs : effAddr (.abs w) s = ⟨w, false, s⟩ := rfl
@[simp] theorem effAddr_absx :
    effAddr (.absx w) s = ⟨w + zext16 s.x, hi8 w != hi8 (w + zext16 s.x), s⟩ := rfl
@[simp] theorem effAddr_absy :
    effAddr (.absy w) s = ⟨w + zext16 s.y, hi8 w != hi8 (w + zext16 s.y), s⟩ := rfl

/-- A zero-page pointer: the word whose bytes stand at z and at z + 1 mod 2^8 (00_scope.md R17). -/
def zpPointer (z : Byte) (s : State) : Word := word (Memory.read s.ram (z + 1).toNat) (Memory.read s.ram z.toNat)

@[simp] theorem effAddr_indx : effAddr (.indx b) s = ⟨zpPointer (b + s.x) s, false, s⟩ := by
  simp only [effAddr, read16Zp_eq, zpPointer]

@[simp] theorem effAddr_indy :
    effAddr (.indy b) s =
      ⟨zpPointer b s + zext16 s.y, hi8 (zpPointer b s) != hi8 (zpPointer b s + zext16 s.y), s⟩ := by
  simp only [effAddr, read16Zp_eq, zpPointer, indexed]

end modes

/-- Only the mode of JMP ($hhll) can read a device: every other effective address changes nothing (30_encoding.md R170). -/
theorem effAddr_state {m : MemOperand} (h : m.mode ≠ .ind) (s : State) : (effAddr m s).state = s := by
  cases m <;> first | rfl | (exact absurd rfl h) | (simp)

/-- An effective address leaves behind what a read can. -/
theorem effAddr_readOnly (m : MemOperand) (s : State) : ReadOnly s (effAddr m s).state := by
  by_cases h : m.mode = .ind
  · cases m with
    | ind w => exact (memRead_readOnly w s).trans (memRead_readOnly _ _)
    | _ => nomatch h
  · rw [effAddr_state h]
    exact ReadOnly.refl s

/-- The operand of a read class leaves behind what a read can (R183). -/
theorem readSource_readOnly (o : Source) (s : State) : ReadOnly s (readSource o s).state := by
  cases o with
  | imm b => exact ReadOnly.refl s
  | mem m => exact (effAddr_readOnly m s).trans (memRead_readOnly _ _)

/-- An immediate operand (R172). -/
@[simp] theorem readSource_imm (b : Byte) (s : State) : readSource (.imm b) s = ⟨b, 0, s⟩ := rfl

/-- A read class completes: PC past the instruction, the devices as its reads leave them, then the effect (R163, R183). -/
theorem readClass_eq (o : Source) (base : Nat) (f : Byte → State → State) (s : State) :
    ∃ v k d, readClass o base f s =
        .next (withCycles (base + k) (f v { advancePc (sourceLength o) s with dev := d })) ∧
      ReadOnly (advancePc (sourceLength o) s) { advancePc (sourceLength o) s with dev := d } := by
  have h := readSource_readOnly o (advancePc (sourceLength o) s)
  obtain ⟨d, he, -⟩ := id h
  rw [he] at h
  refine ⟨(readSource o (advancePc (sourceLength o) s)).value, (readSource o (advancePc (sourceLength o) s)).extra, d,
    ?_, h⟩
  rw [← he]
  rfl

theorem advancePc_inv (n : Nat) {s : State} (h : s.Inv) : (advancePc n s).Inv := h

theorem withCycles_inv (n : Nat) {s : State} (h : s.Inv) : (withCycles n s).Inv := h

/-- A read class keeps the invariant where its effect does. -/
theorem readClass_inv (o : Source) (base : Nat) {f : Byte → State → State} (hf : ∀ v s, s.Inv → (f v s).Inv)
    {s t : State} (h : s.Inv) (he : readClass o base f s = .next t) : t.Inv := by
  cases he
  exact hf _ _ ((readSource_readOnly o _).inv h)

/-- A write class keeps the invariant. -/
theorem writeClass_inv (m : MemOperand) (base : Nat) (v : State → Byte) {s t : State} (h : s.Inv)
    (he : writeClass m base v s = .next t) : t.Inv := by
  cases he
  exact memWrite_inv _ _ ((effAddr_readOnly m (advancePc (memLength m) s)).inv h)

/-- A read-modify-write keeps the invariant where its last part does. -/
theorem modifyClass_inv (m : MemOperand) (base : Nat) (f : Byte → Flags → Byte × Flags) {g : Byte → State → State}
    (hg : ∀ v s, s.Inv → (g v s).Inv) {s t : State} (h : s.Inv) (he : modifyClass m base f g s = .next t) : t.Inv := by
  cases he
  refine hg _ _ (memWrite_inv _ _ ?_)
  exact memRead_inv _ ((effAddr_readOnly m (advancePc (memLength m) s)).inv h)

/-- An implied instruction keeps the invariant where its effect does. -/
theorem implied_inv (base : Nat) {f : State → State} (hf : ∀ s, s.Inv → (f s).Inv) {s t : State} (h : s.Inv)
    (he : implied base f s = .next t) : t.Inv := by
  cases he
  exact hf _ h

/-- A branch changes PC and the count alone, so it keeps the invariant (47_control.md R385). -/
theorem branch_inv (c : Bool) (b : Byte) {s t : State} (h : s.Inv) (he : branch c b s = .next t) : t.Inv := by
  unfold branch at he
  simp only at he
  split at he <;> cases he <;> exact h

/-- A halt changes `halted` and the count alone, so it keeps the invariant (60_exceptions.md R500). -/
theorem halt_inv {s t : State} (h : s.Inv) (he : halt s = .next t) : t.Inv := by
  cases he
  exact h

end Sys2Proof.Machine
end

