-- ==== Sys2Proof/Laws/PerInstr.lean ====
section
/-! SUPPORT. Every instruction is what the decoder reads under its own opcode byte (30_encoding.md R190): one lemma per
constructor, and all of them together. So what is shown of each opcode byte is shown of each instruction. -/

namespace Sys2Proof.Laws

open Sys2Proof.Machine

/-- The decoder gives the instruction under its opcode byte, for some operand bytes. -/
def Encoded.Statement (i : Instr) : Prop := ∃ b1 b2, decodeOp i.opcode b1 b2 = i

theorem Encoded.oraIndx (b : Byte) : Encoded.Statement (.oraIndx b) := ⟨b, 0, rfl⟩
theorem Encoded.sloIndx (b : Byte) : Encoded.Statement (.sloIndx b) := ⟨b, 0, rfl⟩
theorem Encoded.nopZp04 (b : Byte) : Encoded.Statement (.nopZp04 b) := ⟨b, 0, rfl⟩
theorem Encoded.oraZp (b : Byte) : Encoded.Statement (.oraZp b) := ⟨b, 0, rfl⟩
theorem Encoded.aslZp (b : Byte) : Encoded.Statement (.aslZp b) := ⟨b, 0, rfl⟩
theorem Encoded.sloZp (b : Byte) : Encoded.Statement (.sloZp b) := ⟨b, 0, rfl⟩
theorem Encoded.oraImm (b : Byte) : Encoded.Statement (.oraImm b) := ⟨b, 0, rfl⟩
theorem Encoded.ancImm0B (b : Byte) : Encoded.Statement (.ancImm0B b) := ⟨b, 0, rfl⟩
theorem Encoded.nopAbs0C (w : Word) : Encoded.Statement (.nopAbs0C w) :=
  ⟨lo8 w, hi8 w, congrArg Instr.nopAbs0C (word_hi8_lo8 w)⟩
theorem Encoded.oraAbs (w : Word) : Encoded.Statement (.oraAbs w) :=
  ⟨lo8 w, hi8 w, congrArg Instr.oraAbs (word_hi8_lo8 w)⟩
theorem Encoded.aslAbs (w : Word) : Encoded.Statement (.aslAbs w) :=
  ⟨lo8 w, hi8 w, congrArg Instr.aslAbs (word_hi8_lo8 w)⟩
theorem Encoded.sloAbs (w : Word) : Encoded.Statement (.sloAbs w) :=
  ⟨lo8 w, hi8 w, congrArg Instr.sloAbs (word_hi8_lo8 w)⟩
theorem Encoded.bpl (b : Byte) : Encoded.Statement (.bpl b) := ⟨b, 0, rfl⟩
theorem Encoded.oraIndy (b : Byte) : Encoded.Statement (.oraIndy b) := ⟨b, 0, rfl⟩
theorem Encoded.sloIndy (b : Byte) : Encoded.Statement (.sloIndy b) := ⟨b, 0, rfl⟩
theorem Encoded.nopZpx14 (b : Byte) : Encoded.Statement (.nopZpx14 b) := ⟨b, 0, rfl⟩
theorem Encoded.oraZpx (b : Byte) : Encoded.Statement (.oraZpx b) := ⟨b, 0, rfl⟩
theorem Encoded.aslZpx (b : Byte) : Encoded.Statement (.aslZpx b) := ⟨b, 0, rfl⟩
theorem Encoded.sloZpx (b : Byte) : Encoded.Statement (.sloZpx b) := ⟨b, 0, rfl⟩
theorem Encoded.oraAbsy (w : Word) : Encoded.Statement (.oraAbsy w) :=
  ⟨lo8 w, hi8 w, congrArg Instr.oraAbsy (word_hi8_lo8 w)⟩
theorem Encoded.sloAbsy (w : Word) : Encoded.Statement (.sloAbsy w) :=
  ⟨lo8 w, hi8 w, congrArg Instr.sloAbsy (word_hi8_lo8 w)⟩
theorem Encoded.nopAbsx1C (w : Word) : Encoded.Statement (.nopAbsx1C w) :=
  ⟨lo8 w, hi8 w, congrArg Instr.nopAbsx1C (word_hi8_lo8 w)⟩
theorem Encoded.oraAbsx (w : Word) : Encoded.Statement (.oraAbsx w) :=
  ⟨lo8 w, hi8 w, congrArg Instr.oraAbsx (word_hi8_lo8 w)⟩
theorem Encoded.aslAbsx (w : Word) : Encoded.Statement (.aslAbsx w) :=
  ⟨lo8 w, hi8 w, congrArg Instr.aslAbsx (word_hi8_lo8 w)⟩
theorem Encoded.sloAbsx (w : Word) : Encoded.Statement (.sloAbsx w) :=
  ⟨lo8 w, hi8 w, congrArg Instr.sloAbsx (word_hi8_lo8 w)⟩
theorem Encoded.jsr (w : Word) : Encoded.Statement (.jsr w) :=
  ⟨lo8 w, hi8 w, congrArg Instr.jsr (word_hi8_lo8 w)⟩
theorem Encoded.andIndx (b : Byte) : Encoded.Statement (.andIndx b) := ⟨b, 0, rfl⟩
theorem Encoded.rlaIndx (b : Byte) : Encoded.Statement (.rlaIndx b) := ⟨b, 0, rfl⟩
theorem Encoded.bitZp (b : Byte) : Encoded.Statement (.bitZp b) := ⟨b, 0, rfl⟩
theorem Encoded.andZp (b : Byte) : Encoded.Statement (.andZp b) := ⟨b, 0, rfl⟩
theorem Encoded.rolZp (b : Byte) : Encoded.Statement (.rolZp b) := ⟨b, 0, rfl⟩
theorem Encoded.rlaZp (b : Byte) : Encoded.Statement (.rlaZp b) := ⟨b, 0, rfl⟩
theorem Encoded.andImm (b : Byte) : Encoded.Statement (.andImm b) := ⟨b, 0, rfl⟩
theorem Encoded.ancImm2B (b : Byte) : Encoded.Statement (.ancImm2B b) := ⟨b, 0, rfl⟩
theorem Encoded.bitAbs (w : Word) : Encoded.Statement (.bitAbs w) :=
  ⟨lo8 w, hi8 w, congrArg Instr.bitAbs (word_hi8_lo8 w)⟩
theorem Encoded.andAbs (w : Word) : Encoded.Statement (.andAbs w) :=
  ⟨lo8 w, hi8 w, congrArg Instr.andAbs (word_hi8_lo8 w)⟩
theorem Encoded.rolAbs (w : Word) : Encoded.Statement (.rolAbs w) :=
  ⟨lo8 w, hi8 w, congrArg Instr.rolAbs (word_hi8_lo8 w)⟩
theorem Encoded.rlaAbs (w : Word) : Encoded.Statement (.rlaAbs w) :=
  ⟨lo8 w, hi8 w, congrArg Instr.rlaAbs (word_hi8_lo8 w)⟩
theorem Encoded.bmi (b : Byte) : Encoded.Statement (.bmi b) := ⟨b, 0, rfl⟩
theorem Encoded.andIndy (b : Byte) : Encoded.Statement (.andIndy b) := ⟨b, 0, rfl⟩
theorem Encoded.rlaIndy (b : Byte) : Encoded.Statement (.rlaIndy b) := ⟨b, 0, rfl⟩
theorem Encoded.nopZpx34 (b : Byte) : Encoded.Statement (.nopZpx34 b) := ⟨b, 0, rfl⟩
theorem Encoded.andZpx (b : Byte) : Encoded.Statement (.andZpx b) := ⟨b, 0, rfl⟩
theorem Encoded.rolZpx (b : Byte) : Encoded.Statement (.rolZpx b) := ⟨b, 0, rfl⟩
theorem Encoded.rlaZpx (b : Byte) : Encoded.Statement (.rlaZpx b) := ⟨b, 0, rfl⟩
theorem Encoded.andAbsy (w : Word) : Encoded.Statement (.andAbsy w) :=
  ⟨lo8 w, hi8 w, congrArg Instr.andAbsy (word_hi8_lo8 w)⟩
theorem Encoded.rlaAbsy (w : Word) : Encoded.Statement (.rlaAbsy w) :=
  ⟨lo8 w, hi8 w, congrArg Instr.rlaAbsy (word_hi8_lo8 w)⟩
theorem Encoded.nopAbsx3C (w : Word) : Encoded.Statement (.nopAbsx3C w) :=
  ⟨lo8 w, hi8 w, congrArg Instr.nopAbsx3C (word_hi8_lo8 w)⟩
theorem Encoded.andAbsx (w : Word) : Encoded.Statement (.andAbsx w) :=
  ⟨lo8 w, hi8 w, congrArg Instr.andAbsx (word_hi8_lo8 w)⟩
theorem Encoded.rolAbsx (w : Word) : Encoded.Statement (.rolAbsx w) :=
  ⟨lo8 w, hi8 w, congrArg Instr.rolAbsx (word_hi8_lo8 w)⟩
theorem Encoded.rlaAbsx (w : Word) : Encoded.Statement (.rlaAbsx w) :=
  ⟨lo8 w, hi8 w, congrArg Instr.rlaAbsx (word_hi8_lo8 w)⟩
theorem Encoded.eorIndx (b : Byte) : Encoded.Statement (.eorIndx b) := ⟨b, 0, rfl⟩
theorem Encoded.sreIndx (b : Byte) : Encoded.Statement (.sreIndx b) := ⟨b, 0, rfl⟩
theorem Encoded.nopZp44 (b : Byte) : Encoded.Statement (.nopZp44 b) := ⟨b, 0, rfl⟩
theorem Encoded.eorZp (b : Byte) : Encoded.Statement (.eorZp b) := ⟨b, 0, rfl⟩
theorem Encoded.lsrZp (b : Byte) : Encoded.Statement (.lsrZp b) := ⟨b, 0, rfl⟩
theorem Encoded.sreZp (b : Byte) : Encoded.Statement (.sreZp b) := ⟨b, 0, rfl⟩
theorem Encoded.eorImm (b : Byte) : Encoded.Statement (.eorImm b) := ⟨b, 0, rfl⟩
theorem Encoded.alr (b : Byte) : Encoded.Statement (.alr b) := ⟨b, 0, rfl⟩
theorem Encoded.jmpAbs (w : Word) : Encoded.Statement (.jmpAbs w) :=
  ⟨lo8 w, hi8 w, congrArg Instr.jmpAbs (word_hi8_lo8 w)⟩
theorem Encoded.eorAbs (w : Word) : Encoded.Statement (.eorAbs w) :=
  ⟨lo8 w, hi8 w, congrArg Instr.eorAbs (word_hi8_lo8 w)⟩
theorem Encoded.lsrAbs (w : Word) : Encoded.Statement (.lsrAbs w) :=
  ⟨lo8 w, hi8 w, congrArg Instr.lsrAbs (word_hi8_lo8 w)⟩
theorem Encoded.sreAbs (w : Word) : Encoded.Statement (.sreAbs w) :=
  ⟨lo8 w, hi8 w, congrArg Instr.sreAbs (word_hi8_lo8 w)⟩
theorem Encoded.bvc (b : Byte) : Encoded.Statement (.bvc b) := ⟨b, 0, rfl⟩
theorem Encoded.eorIndy (b : Byte) : Encoded.Statement (.eorIndy b) := ⟨b, 0, rfl⟩
theorem Encoded.sreIndy (b : Byte) : Encoded.Statement (.sreIndy b) := ⟨b, 0, rfl⟩
theorem Encoded.nopZpx54 (b : Byte) : Encoded.Statement (.nopZpx54 b) := ⟨b, 0, rfl⟩
theorem Encoded.eorZpx (b : Byte) : Encoded.Statement (.eorZpx b) := ⟨b, 0, rfl⟩
theorem Encoded.lsrZpx (b : Byte) : Encoded.Statement (.lsrZpx b) := ⟨b, 0, rfl⟩
theorem Encoded.sreZpx (b : Byte) : Encoded.Statement (.sreZpx b) := ⟨b, 0, rfl⟩
theorem Encoded.eorAbsy (w : Word) : Encoded.Statement (.eorAbsy w) :=
  ⟨lo8 w, hi8 w, congrArg Instr.eorAbsy (word_hi8_lo8 w)⟩
theorem Encoded.sreAbsy (w : Word) : Encoded.Statement (.sreAbsy w) :=
  ⟨lo8 w, hi8 w, congrArg Instr.sreAbsy (word_hi8_lo8 w)⟩
theorem Encoded.nopAbsx5C (w : Word) : Encoded.Statement (.nopAbsx5C w) :=
  ⟨lo8 w, hi8 w, congrArg Instr.nopAbsx5C (word_hi8_lo8 w)⟩
theorem Encoded.eorAbsx (w : Word) : Encoded.Statement (.eorAbsx w) :=
  ⟨lo8 w, hi8 w, congrArg Instr.eorAbsx (word_hi8_lo8 w)⟩
theorem Encoded.lsrAbsx (w : Word) : Encoded.Statement (.lsrAbsx w) :=
  ⟨lo8 w, hi8 w, congrArg Instr.lsrAbsx (word_hi8_lo8 w)⟩
theorem Encoded.sreAbsx (w : Word) : Encoded.Statement (.sreAbsx w) :=
  ⟨lo8 w, hi8 w, congrArg Instr.sreAbsx (word_hi8_lo8 w)⟩
theorem Encoded.adcIndx (b : Byte) : Encoded.Statement (.adcIndx b) := ⟨b, 0, rfl⟩
theorem Encoded.rraIndx (b : Byte) : Encoded.Statement (.rraIndx b) := ⟨b, 0, rfl⟩
theorem Encoded.nopZp64 (b : Byte) : Encoded.Statement (.nopZp64 b) := ⟨b, 0, rfl⟩
theorem Encoded.adcZp (b : Byte) : Encoded.Statement (.adcZp b) := ⟨b, 0, rfl⟩
theorem Encoded.rorZp (b : Byte) : Encoded.Statement (.rorZp b) := ⟨b, 0, rfl⟩
theorem Encoded.rraZp (b : Byte) : Encoded.Statement (.rraZp b) := ⟨b, 0, rfl⟩
theorem Encoded.adcImm (b : Byte) : Encoded.Statement (.adcImm b) := ⟨b, 0, rfl⟩
theorem Encoded.arr (b : Byte) : Encoded.Statement (.arr b) := ⟨b, 0, rfl⟩
theorem Encoded.jmpInd (w : Word) : Encoded.Statement (.jmpInd w) :=
  ⟨lo8 w, hi8 w, congrArg Instr.jmpInd (word_hi8_lo8 w)⟩
theorem Encoded.adcAbs (w : Word) : Encoded.Statement (.adcAbs w) :=
  ⟨lo8 w, hi8 w, congrArg Instr.adcAbs (word_hi8_lo8 w)⟩
theorem Encoded.rorAbs (w : Word) : Encoded.Statement (.rorAbs w) :=
  ⟨lo8 w, hi8 w, congrArg Instr.rorAbs (word_hi8_lo8 w)⟩
theorem Encoded.rraAbs (w : Word) : Encoded.Statement (.rraAbs w) :=
  ⟨lo8 w, hi8 w, congrArg Instr.rraAbs (word_hi8_lo8 w)⟩
theorem Encoded.bvs (b : Byte) : Encoded.Statement (.bvs b) := ⟨b, 0, rfl⟩
theorem Encoded.adcIndy (b : Byte) : Encoded.Statement (.adcIndy b) := ⟨b, 0, rfl⟩
theorem Encoded.rraIndy (b : Byte) : Encoded.Statement (.rraIndy b) := ⟨b, 0, rfl⟩
theorem Encoded.nopZpx74 (b : Byte) : Encoded.Statement (.nopZpx74 b) := ⟨b, 0, rfl⟩
theorem Encoded.adcZpx (b : Byte) : Encoded.Statement (.adcZpx b) := ⟨b, 0, rfl⟩
theorem Encoded.rorZpx (b : Byte) : Encoded.Statement (.rorZpx b) := ⟨b, 0, rfl⟩
theorem Encoded.rraZpx (b : Byte) : Encoded.Statement (.rraZpx b) := ⟨b, 0, rfl⟩
theorem Encoded.adcAbsy (w : Word) : Encoded.Statement (.adcAbsy w) :=
  ⟨lo8 w, hi8 w, congrArg Instr.adcAbsy (word_hi8_lo8 w)⟩
theorem Encoded.rraAbsy (w : Word) : Encoded.Statement (.rraAbsy w) :=
  ⟨lo8 w, hi8 w, congrArg Instr.rraAbsy (word_hi8_lo8 w)⟩
theorem Encoded.nopAbsx7C (w : Word) : Encoded.Statement (.nopAbsx7C w) :=
  ⟨lo8 w, hi8 w, congrArg Instr.nopAbsx7C (word_hi8_lo8 w)⟩
theorem Encoded.adcAbsx (w : Word) : Encoded.Statement (.adcAbsx w) :=
  ⟨lo8 w, hi8 w, congrArg Instr.adcAbsx (word_hi8_lo8 w)⟩
theorem Encoded.rorAbsx (w : Word) : Encoded.Statement (.rorAbsx w) :=
  ⟨lo8 w, hi8 w, congrArg Instr.rorAbsx (word_hi8_lo8 w)⟩
theorem Encoded.rraAbsx (w : Word) : Encoded.Statement (.rraAbsx w) :=
  ⟨lo8 w, hi8 w, congrArg Instr.rraAbsx (word_hi8_lo8 w)⟩
theorem Encoded.nopImm80 (b : Byte) : Encoded.Statement (.nopImm80 b) := ⟨b, 0, rfl⟩
theorem Encoded.staIndx (b : Byte) : Encoded.Statement (.staIndx b) := ⟨b, 0, rfl⟩
theorem Encoded.nopImm82 (b : Byte) : Encoded.Statement (.nopImm82 b) := ⟨b, 0, rfl⟩
theorem Encoded.saxIndx (b : Byte) : Encoded.Statement (.saxIndx b) := ⟨b, 0, rfl⟩
theorem Encoded.styZp (b : Byte) : Encoded.Statement (.styZp b) := ⟨b, 0, rfl⟩
theorem Encoded.staZp (b : Byte) : Encoded.Statement (.staZp b) := ⟨b, 0, rfl⟩
theorem Encoded.stxZp (b : Byte) : Encoded.Statement (.stxZp b) := ⟨b, 0, rfl⟩
theorem Encoded.saxZp (b : Byte) : Encoded.Statement (.saxZp b) := ⟨b, 0, rfl⟩
theorem Encoded.nopImm89 (b : Byte) : Encoded.Statement (.nopImm89 b) := ⟨b, 0, rfl⟩
theorem Encoded.styAbs (w : Word) : Encoded.Statement (.styAbs w) :=
  ⟨lo8 w, hi8 w, congrArg Instr.styAbs (word_hi8_lo8 w)⟩
theorem Encoded.staAbs (w : Word) : Encoded.Statement (.staAbs w) :=
  ⟨lo8 w, hi8 w, congrArg Instr.staAbs (word_hi8_lo8 w)⟩
theorem Encoded.stxAbs (w : Word) : Encoded.Statement (.stxAbs w) :=
  ⟨lo8 w, hi8 w, congrArg Instr.stxAbs (word_hi8_lo8 w)⟩
theorem Encoded.saxAbs (w : Word) : Encoded.Statement (.saxAbs w) :=
  ⟨lo8 w, hi8 w, congrArg Instr.saxAbs (word_hi8_lo8 w)⟩
theorem Encoded.bcc (b : Byte) : Encoded.Statement (.bcc b) := ⟨b, 0, rfl⟩
theorem Encoded.staIndy (b : Byte) : Encoded.Statement (.staIndy b) := ⟨b, 0, rfl⟩
theorem Encoded.styZpx (b : Byte) : Encoded.Statement (.styZpx b) := ⟨b, 0, rfl⟩
theorem Encoded.staZpx (b : Byte) : Encoded.Statement (.staZpx b) := ⟨b, 0, rfl⟩
theorem Encoded.stxZpy (b : Byte) : Encoded.Statement (.stxZpy b) := ⟨b, 0, rfl⟩
theorem Encoded.saxZpy (b : Byte) : Encoded.Statement (.saxZpy b) := ⟨b, 0, rfl⟩
theorem Encoded.staAbsy (w : Word) : Encoded.Statement (.staAbsy w) :=
  ⟨lo8 w, hi8 w, congrArg Instr.staAbsy (word_hi8_lo8 w)⟩
theorem Encoded.staAbsx (w : Word) : Encoded.Statement (.staAbsx w) :=
  ⟨lo8 w, hi8 w, congrArg Instr.staAbsx (word_hi8_lo8 w)⟩
theorem Encoded.ldyImm (b : Byte) : Encoded.Statement (.ldyImm b) := ⟨b, 0, rfl⟩
theorem Encoded.ldaIndx (b : Byte) : Encoded.Statement (.ldaIndx b) := ⟨b, 0, rfl⟩
theorem Encoded.ldxImm (b : Byte) : Encoded.Statement (.ldxImm b) := ⟨b, 0, rfl⟩
theorem Encoded.laxIndx (b : Byte) : Encoded.Statement (.laxIndx b) := ⟨b, 0, rfl⟩
theorem Encoded.ldyZp (b : Byte) : Encoded.Statement (.ldyZp b) := ⟨b, 0, rfl⟩
theorem Encoded.ldaZp (b : Byte) : Encoded.Statement (.ldaZp b) := ⟨b, 0, rfl⟩
theorem Encoded.ldxZp (b : Byte) : Encoded.Statement (.ldxZp b) := ⟨b, 0, rfl⟩
theorem Encoded.laxZp (b : Byte) : Encoded.Statement (.laxZp b) := ⟨b, 0, rfl⟩
theorem Encoded.ldaImm (b : Byte) : Encoded.Statement (.ldaImm b) := ⟨b, 0, rfl⟩
theorem Encoded.ldyAbs (w : Word) : Encoded.Statement (.ldyAbs w) :=
  ⟨lo8 w, hi8 w, congrArg Instr.ldyAbs (word_hi8_lo8 w)⟩
theorem Encoded.ldaAbs (w : Word) : Encoded.Statement (.ldaAbs w) :=
  ⟨lo8 w, hi8 w, congrArg Instr.ldaAbs (word_hi8_lo8 w)⟩
theorem Encoded.ldxAbs (w : Word) : Encoded.Statement (.ldxAbs w) :=
  ⟨lo8 w, hi8 w, congrArg Instr.ldxAbs (word_hi8_lo8 w)⟩
theorem Encoded.laxAbs (w : Word) : Encoded.Statement (.laxAbs w) :=
  ⟨lo8 w, hi8 w, congrArg Instr.laxAbs (word_hi8_lo8 w)⟩
theorem Encoded.bcs (b : Byte) : Encoded.Statement (.bcs b) := ⟨b, 0, rfl⟩
theorem Encoded.ldaIndy (b : Byte) : Encoded.Statement (.ldaIndy b) := ⟨b, 0, rfl⟩
theorem Encoded.laxIndy (b : Byte) : Encoded.Statement (.laxIndy b) := ⟨b, 0, rfl⟩
theorem Encoded.ldyZpx (b : Byte) : Encoded.Statement (.ldyZpx b) := ⟨b, 0, rfl⟩
theorem Encoded.ldaZpx (b : Byte) : Encoded.Statement (.ldaZpx b) := ⟨b, 0, rfl⟩
theorem Encoded.ldxZpy (b : Byte) : Encoded.Statement (.ldxZpy b) := ⟨b, 0, rfl⟩
theorem Encoded.laxZpy (b : Byte) : Encoded.Statement (.laxZpy b) := ⟨b, 0, rfl⟩
theorem Encoded.ldaAbsy (w : Word) : Encoded.Statement (.ldaAbsy w) :=
  ⟨lo8 w, hi8 w, congrArg Instr.ldaAbsy (word_hi8_lo8 w)⟩
theorem Encoded.las (w : Word) : Encoded.Statement (.las w) :=
  ⟨lo8 w, hi8 w, congrArg Instr.las (word_hi8_lo8 w)⟩
theorem Encoded.ldyAbsx (w : Word) : Encoded.Statement (.ldyAbsx w) :=
  ⟨lo8 w, hi8 w, congrArg Instr.ldyAbsx (word_hi8_lo8 w)⟩
theorem Encoded.ldaAbsx (w : Word) : Encoded.Statement (.ldaAbsx w) :=
  ⟨lo8 w, hi8 w, congrArg Instr.ldaAbsx (word_hi8_lo8 w)⟩
theorem Encoded.ldxAbsy (w : Word) : Encoded.Statement (.ldxAbsy w) :=
  ⟨lo8 w, hi8 w, congrArg Instr.ldxAbsy (word_hi8_lo8 w)⟩
theorem Encoded.laxAbsy (w : Word) : Encoded.Statement (.laxAbsy w) :=
  ⟨lo8 w, hi8 w, congrArg Instr.laxAbsy (word_hi8_lo8 w)⟩
theorem Encoded.cpyImm (b : Byte) : Encoded.Statement (.cpyImm b) := ⟨b, 0, rfl⟩
theorem Encoded.cmpIndx (b : Byte) : Encoded.Statement (.cmpIndx b) := ⟨b, 0, rfl⟩
theorem Encoded.nopImmC2 (b : Byte) : Encoded.Statement (.nopImmC2 b) := ⟨b, 0, rfl⟩
theorem Encoded.dcpIndx (b : Byte) : Encoded.Statement (.dcpIndx b) := ⟨b, 0, rfl⟩
theorem Encoded.cpyZp (b : Byte) : Encoded.Statement (.cpyZp b) := ⟨b, 0, rfl⟩
theorem Encoded.cmpZp (b : Byte) : Encoded.Statement (.cmpZp b) := ⟨b, 0, rfl⟩
theorem Encoded.decZp (b : Byte) : Encoded.Statement (.decZp b) := ⟨b, 0, rfl⟩
theorem Encoded.dcpZp (b : Byte) : Encoded.Statement (.dcpZp b) := ⟨b, 0, rfl⟩
theorem Encoded.cmpImm (b : Byte) : Encoded.Statement (.cmpImm b) := ⟨b, 0, rfl⟩
theorem Encoded.axs (b : Byte) : Encoded.Statement (.axs b) := ⟨b, 0, rfl⟩
theorem Encoded.cpyAbs (w : Word) : Encoded.Statement (.cpyAbs w) :=
  ⟨lo8 w, hi8 w, congrArg Instr.cpyAbs (word_hi8_lo8 w)⟩
theorem Encoded.cmpAbs (w : Word) : Encoded.Statement (.cmpAbs w) :=
  ⟨lo8 w, hi8 w, congrArg Instr.cmpAbs (word_hi8_lo8 w)⟩
theorem Encoded.decAbs (w : Word) : Encoded.Statement (.decAbs w) :=
  ⟨lo8 w, hi8 w, congrArg Instr.decAbs (word_hi8_lo8 w)⟩
theorem Encoded.dcpAbs (w : Word) : Encoded.Statement (.dcpAbs w) :=
  ⟨lo8 w, hi8 w, congrArg Instr.dcpAbs (word_hi8_lo8 w)⟩
theorem Encoded.bne (b : Byte) : Encoded.Statement (.bne b) := ⟨b, 0, rfl⟩
theorem Encoded.cmpIndy (b : Byte) : Encoded.Statement (.cmpIndy b) := ⟨b, 0, rfl⟩
theorem Encoded.dcpIndy (b : Byte) : Encoded.Statement (.dcpIndy b) := ⟨b, 0, rfl⟩
theorem Encoded.nopZpxD4 (b : Byte) : Encoded.Statement (.nopZpxD4 b) := ⟨b, 0, rfl⟩
theorem Encoded.cmpZpx (b : Byte) : Encoded.Statement (.cmpZpx b) := ⟨b, 0, rfl⟩
theorem Encoded.decZpx (b : Byte) : Encoded.Statement (.decZpx b) := ⟨b, 0, rfl⟩
theorem Encoded.dcpZpx (b : Byte) : Encoded.Statement (.dcpZpx b) := ⟨b, 0, rfl⟩
theorem Encoded.cmpAbsy (w : Word) : Encoded.Statement (.cmpAbsy w) :=
  ⟨lo8 w, hi8 w, congrArg Instr.cmpAbsy (word_hi8_lo8 w)⟩
theorem Encoded.dcpAbsy (w : Word) : Encoded.Statement (.dcpAbsy w) :=
  ⟨lo8 w, hi8 w, congrArg Instr.dcpAbsy (word_hi8_lo8 w)⟩
theorem Encoded.nopAbsxDC (w : Word) : Encoded.Statement (.nopAbsxDC w) :=
  ⟨lo8 w, hi8 w, congrArg Instr.nopAbsxDC (word_hi8_lo8 w)⟩
theorem Encoded.cmpAbsx (w : Word) : Encoded.Statement (.cmpAbsx w) :=
  ⟨lo8 w, hi8 w, congrArg Instr.cmpAbsx (word_hi8_lo8 w)⟩
theorem Encoded.decAbsx (w : Word) : Encoded.Statement (.decAbsx w) :=
  ⟨lo8 w, hi8 w, congrArg Instr.decAbsx (word_hi8_lo8 w)⟩
theorem Encoded.dcpAbsx (w : Word) : Encoded.Statement (.dcpAbsx w) :=
  ⟨lo8 w, hi8 w, congrArg Instr.dcpAbsx (word_hi8_lo8 w)⟩
theorem Encoded.cpxImm (b : Byte) : Encoded.Statement (.cpxImm b) := ⟨b, 0, rfl⟩
theorem Encoded.sbcIndx (b : Byte) : Encoded.Statement (.sbcIndx b) := ⟨b, 0, rfl⟩
theorem Encoded.nopImmE2 (b : Byte) : Encoded.Statement (.nopImmE2 b) := ⟨b, 0, rfl⟩
theorem Encoded.iscIndx (b : Byte) : Encoded.Statement (.iscIndx b) := ⟨b, 0, rfl⟩
theorem Encoded.cpxZp (b : Byte) : Encoded.Statement (.cpxZp b) := ⟨b, 0, rfl⟩
theorem Encoded.sbcZp (b : Byte) : Encoded.Statement (.sbcZp b) := ⟨b, 0, rfl⟩
theorem Encoded.incZp (b : Byte) : Encoded.Statement (.incZp b) := ⟨b, 0, rfl⟩
theorem Encoded.iscZp (b : Byte) : Encoded.Statement (.iscZp b) := ⟨b, 0, rfl⟩
theorem Encoded.sbcImm (b : Byte) : Encoded.Statement (.sbcImm b) := ⟨b, 0, rfl⟩
theorem Encoded.sbcImmEB (b : Byte) : Encoded.Statement (.sbcImmEB b) := ⟨b, 0, rfl⟩
theorem Encoded.cpxAbs (w : Word) : Encoded.Statement (.cpxAbs w) :=
  ⟨lo8 w, hi8 w, congrArg Instr.cpxAbs (word_hi8_lo8 w)⟩
theorem Encoded.sbcAbs (w : Word) : Encoded.Statement (.sbcAbs w) :=
  ⟨lo8 w, hi8 w, congrArg Instr.sbcAbs (word_hi8_lo8 w)⟩
theorem Encoded.incAbs (w : Word) : Encoded.Statement (.incAbs w) :=
  ⟨lo8 w, hi8 w, congrArg Instr.incAbs (word_hi8_lo8 w)⟩
theorem Encoded.iscAbs (w : Word) : Encoded.Statement (.iscAbs w) :=
  ⟨lo8 w, hi8 w, congrArg Instr.iscAbs (word_hi8_lo8 w)⟩
theorem Encoded.beq (b : Byte) : Encoded.Statement (.beq b) := ⟨b, 0, rfl⟩
theorem Encoded.sbcIndy (b : Byte) : Encoded.Statement (.sbcIndy b) := ⟨b, 0, rfl⟩
theorem Encoded.iscIndy (b : Byte) : Encoded.Statement (.iscIndy b) := ⟨b, 0, rfl⟩
theorem Encoded.nopZpxF4 (b : Byte) : Encoded.Statement (.nopZpxF4 b) := ⟨b, 0, rfl⟩
theorem Encoded.sbcZpx (b : Byte) : Encoded.Statement (.sbcZpx b) := ⟨b, 0, rfl⟩
theorem Encoded.incZpx (b : Byte) : Encoded.Statement (.incZpx b) := ⟨b, 0, rfl⟩
theorem Encoded.iscZpx (b : Byte) : Encoded.Statement (.iscZpx b) := ⟨b, 0, rfl⟩
theorem Encoded.sbcAbsy (w : Word) : Encoded.Statement (.sbcAbsy w) :=
  ⟨lo8 w, hi8 w, congrArg Instr.sbcAbsy (word_hi8_lo8 w)⟩
theorem Encoded.iscAbsy (w : Word) : Encoded.Statement (.iscAbsy w) :=
  ⟨lo8 w, hi8 w, congrArg Instr.iscAbsy (word_hi8_lo8 w)⟩
theorem Encoded.nopAbsxFC (w : Word) : Encoded.Statement (.nopAbsxFC w) :=
  ⟨lo8 w, hi8 w, congrArg Instr.nopAbsxFC (word_hi8_lo8 w)⟩
theorem Encoded.sbcAbsx (w : Word) : Encoded.Statement (.sbcAbsx w) :=
  ⟨lo8 w, hi8 w, congrArg Instr.sbcAbsx (word_hi8_lo8 w)⟩
theorem Encoded.incAbsx (w : Word) : Encoded.Statement (.incAbsx w) :=
  ⟨lo8 w, hi8 w, congrArg Instr.incAbsx (word_hi8_lo8 w)⟩
theorem Encoded.iscAbsx (w : Word) : Encoded.Statement (.iscAbsx w) :=
  ⟨lo8 w, hi8 w, congrArg Instr.iscAbsx (word_hi8_lo8 w)⟩
theorem Encoded.brk : Encoded.Statement .brk := ⟨0, 0, rfl⟩
theorem Encoded.jam02 : Encoded.Statement .jam02 := ⟨0, 0, rfl⟩
theorem Encoded.php : Encoded.Statement .php := ⟨0, 0, rfl⟩
theorem Encoded.aslAcc : Encoded.Statement .aslAcc := ⟨0, 0, rfl⟩
theorem Encoded.jam12 : Encoded.Statement .jam12 := ⟨0, 0, rfl⟩
theorem Encoded.clc : Encoded.Statement .clc := ⟨0, 0, rfl⟩
theorem Encoded.nopImp1A : Encoded.Statement .nopImp1A := ⟨0, 0, rfl⟩
theorem Encoded.jam22 : Encoded.Statement .jam22 := ⟨0, 0, rfl⟩
theorem Encoded.plp : Encoded.Statement .plp := ⟨0, 0, rfl⟩
theorem Encoded.rolAcc : Encoded.Statement .rolAcc := ⟨0, 0, rfl⟩
theorem Encoded.jam32 : Encoded.Statement .jam32 := ⟨0, 0, rfl⟩
theorem Encoded.sec : Encoded.Statement .sec := ⟨0, 0, rfl⟩
theorem Encoded.nopImp3A : Encoded.Statement .nopImp3A := ⟨0, 0, rfl⟩
theorem Encoded.rti : Encoded.Statement .rti := ⟨0, 0, rfl⟩
theorem Encoded.jam42 : Encoded.Statement .jam42 := ⟨0, 0, rfl⟩
theorem Encoded.pha : Encoded.Statement .pha := ⟨0, 0, rfl⟩
theorem Encoded.lsrAcc : Encoded.Statement .lsrAcc := ⟨0, 0, rfl⟩
theorem Encoded.jam52 : Encoded.Statement .jam52 := ⟨0, 0, rfl⟩
theorem Encoded.cli : Encoded.Statement .cli := ⟨0, 0, rfl⟩
theorem Encoded.nopImp5A : Encoded.Statement .nopImp5A := ⟨0, 0, rfl⟩
theorem Encoded.rts : Encoded.Statement .rts := ⟨0, 0, rfl⟩
theorem Encoded.jam62 : Encoded.Statement .jam62 := ⟨0, 0, rfl⟩
theorem Encoded.pla : Encoded.Statement .pla := ⟨0, 0, rfl⟩
theorem Encoded.rorAcc : Encoded.Statement .rorAcc := ⟨0, 0, rfl⟩
theorem Encoded.jam72 : Encoded.Statement .jam72 := ⟨0, 0, rfl⟩
theorem Encoded.sei : Encoded.Statement .sei := ⟨0, 0, rfl⟩
theorem Encoded.nopImp7A : Encoded.Statement .nopImp7A := ⟨0, 0, rfl⟩
theorem Encoded.dey : Encoded.Statement .dey := ⟨0, 0, rfl⟩
theorem Encoded.txa : Encoded.Statement .txa := ⟨0, 0, rfl⟩
theorem Encoded.ane : Encoded.Statement .ane := ⟨0, 0, rfl⟩
theorem Encoded.jam92 : Encoded.Statement .jam92 := ⟨0, 0, rfl⟩
theorem Encoded.shaIndy : Encoded.Statement .shaIndy := ⟨0, 0, rfl⟩
theorem Encoded.tya : Encoded.Statement .tya := ⟨0, 0, rfl⟩
theorem Encoded.txs : Encoded.Statement .txs := ⟨0, 0, rfl⟩
theorem Encoded.shs : Encoded.Statement .shs := ⟨0, 0, rfl⟩
theorem Encoded.shy : Encoded.Statement .shy := ⟨0, 0, rfl⟩
theorem Encoded.shx : Encoded.Statement .shx := ⟨0, 0, rfl⟩
theorem Encoded.shaAbsy : Encoded.Statement .shaAbsy := ⟨0, 0, rfl⟩
theorem Encoded.tay : Encoded.Statement .tay := ⟨0, 0, rfl⟩
theorem Encoded.tax : Encoded.Statement .tax := ⟨0, 0, rfl⟩
theorem Encoded.lxa : Encoded.Statement .lxa := ⟨0, 0, rfl⟩
theorem Encoded.jamB2 : Encoded.Statement .jamB2 := ⟨0, 0, rfl⟩
theorem Encoded.clv : Encoded.Statement .clv := ⟨0, 0, rfl⟩
theorem Encoded.tsx : Encoded.Statement .tsx := ⟨0, 0, rfl⟩
theorem Encoded.iny : Encoded.Statement .iny := ⟨0, 0, rfl⟩
theorem Encoded.dex : Encoded.Statement .dex := ⟨0, 0, rfl⟩
theorem Encoded.jamD2 : Encoded.Statement .jamD2 := ⟨0, 0, rfl⟩
theorem Encoded.cld : Encoded.Statement .cld := ⟨0, 0, rfl⟩
theorem Encoded.nopImpDA : Encoded.Statement .nopImpDA := ⟨0, 0, rfl⟩
theorem Encoded.inx : Encoded.Statement .inx := ⟨0, 0, rfl⟩
theorem Encoded.nop : Encoded.Statement .nop := ⟨0, 0, rfl⟩
theorem Encoded.jamF2 : Encoded.Statement .jamF2 := ⟨0, 0, rfl⟩
theorem Encoded.sed : Encoded.Statement .sed := ⟨0, 0, rfl⟩
theorem Encoded.nopImpFA : Encoded.Statement .nopImpFA := ⟨0, 0, rfl⟩

/-- Every instruction is what the decoder reads under its opcode byte. -/
theorem encoded (i : Instr) : Encoded.Statement i :=
  match i with
  | .oraIndx b => Encoded.oraIndx b
  | .sloIndx b => Encoded.sloIndx b
  | .nopZp04 b => Encoded.nopZp04 b
  | .oraZp b => Encoded.oraZp b
  | .aslZp b => Encoded.aslZp b
  | .sloZp b => Encoded.sloZp b
  | .oraImm b => Encoded.oraImm b
  | .ancImm0B b => Encoded.ancImm0B b
  | .nopAbs0C w => Encoded.nopAbs0C w
  | .oraAbs w => Encoded.oraAbs w
  | .aslAbs w => Encoded.aslAbs w
  | .sloAbs w => Encoded.sloAbs w
  | .bpl b => Encoded.bpl b
  | .oraIndy b => Encoded.oraIndy b
  | .sloIndy b => Encoded.sloIndy b
  | .nopZpx14 b => Encoded.nopZpx14 b
  | .oraZpx b => Encoded.oraZpx b
  | .aslZpx b => Encoded.aslZpx b
  | .sloZpx b => Encoded.sloZpx b
  | .oraAbsy w => Encoded.oraAbsy w
  | .sloAbsy w => Encoded.sloAbsy w
  | .nopAbsx1C w => Encoded.nopAbsx1C w
  | .oraAbsx w => Encoded.oraAbsx w
  | .aslAbsx w => Encoded.aslAbsx w
  | .sloAbsx w => Encoded.sloAbsx w
  | .jsr w => Encoded.jsr w
  | .andIndx b => Encoded.andIndx b
  | .rlaIndx b => Encoded.rlaIndx b
  | .bitZp b => Encoded.bitZp b
  | .andZp b => Encoded.andZp b
  | .rolZp b => Encoded.rolZp b
  | .rlaZp b => Encoded.rlaZp b
  | .andImm b => Encoded.andImm b
  | .ancImm2B b => Encoded.ancImm2B b
  | .bitAbs w => Encoded.bitAbs w
  | .andAbs w => Encoded.andAbs w
  | .rolAbs w => Encoded.rolAbs w
  | .rlaAbs w => Encoded.rlaAbs w
  | .bmi b => Encoded.bmi b
  | .andIndy b => Encoded.andIndy b
  | .rlaIndy b => Encoded.rlaIndy b
  | .nopZpx34 b => Encoded.nopZpx34 b
  | .andZpx b => Encoded.andZpx b
  | .rolZpx b => Encoded.rolZpx b
  | .rlaZpx b => Encoded.rlaZpx b
  | .andAbsy w => Encoded.andAbsy w
  | .rlaAbsy w => Encoded.rlaAbsy w
  | .nopAbsx3C w => Encoded.nopAbsx3C w
  | .andAbsx w => Encoded.andAbsx w
  | .rolAbsx w => Encoded.rolAbsx w
  | .rlaAbsx w => Encoded.rlaAbsx w
  | .eorIndx b => Encoded.eorIndx b
  | .sreIndx b => Encoded.sreIndx b
  | .nopZp44 b => Encoded.nopZp44 b
  | .eorZp b => Encoded.eorZp b
  | .lsrZp b => Encoded.lsrZp b
  | .sreZp b => Encoded.sreZp b
  | .eorImm b => Encoded.eorImm b
  | .alr b => Encoded.alr b
  | .jmpAbs w => Encoded.jmpAbs w
  | .eorAbs w => Encoded.eorAbs w
  | .lsrAbs w => Encoded.lsrAbs w
  | .sreAbs w => Encoded.sreAbs w
  | .bvc b => Encoded.bvc b
  | .eorIndy b => Encoded.eorIndy b
  | .sreIndy b => Encoded.sreIndy b
  | .nopZpx54 b => Encoded.nopZpx54 b
  | .eorZpx b => Encoded.eorZpx b
  | .lsrZpx b => Encoded.lsrZpx b
  | .sreZpx b => Encoded.sreZpx b
  | .eorAbsy w => Encoded.eorAbsy w
  | .sreAbsy w => Encoded.sreAbsy w
  | .nopAbsx5C w => Encoded.nopAbsx5C w
  | .eorAbsx w => Encoded.eorAbsx w
  | .lsrAbsx w => Encoded.lsrAbsx w
  | .sreAbsx w => Encoded.sreAbsx w
  | .adcIndx b => Encoded.adcIndx b
  | .rraIndx b => Encoded.rraIndx b
  | .nopZp64 b => Encoded.nopZp64 b
  | .adcZp b => Encoded.adcZp b
  | .rorZp b => Encoded.rorZp b
  | .rraZp b => Encoded.rraZp b
  | .adcImm b => Encoded.adcImm b
  | .arr b => Encoded.arr b
  | .jmpInd w => Encoded.jmpInd w
  | .adcAbs w => Encoded.adcAbs w
  | .rorAbs w => Encoded.rorAbs w
  | .rraAbs w => Encoded.rraAbs w
  | .bvs b => Encoded.bvs b
  | .adcIndy b => Encoded.adcIndy b
  | .rraIndy b => Encoded.rraIndy b
  | .nopZpx74 b => Encoded.nopZpx74 b
  | .adcZpx b => Encoded.adcZpx b
  | .rorZpx b => Encoded.rorZpx b
  | .rraZpx b => Encoded.rraZpx b
  | .adcAbsy w => Encoded.adcAbsy w
  | .rraAbsy w => Encoded.rraAbsy w
  | .nopAbsx7C w => Encoded.nopAbsx7C w
  | .adcAbsx w => Encoded.adcAbsx w
  | .rorAbsx w => Encoded.rorAbsx w
  | .rraAbsx w => Encoded.rraAbsx w
  | .nopImm80 b => Encoded.nopImm80 b
  | .staIndx b => Encoded.staIndx b
  | .nopImm82 b => Encoded.nopImm82 b
  | .saxIndx b => Encoded.saxIndx b
  | .styZp b => Encoded.styZp b
  | .staZp b => Encoded.staZp b
  | .stxZp b => Encoded.stxZp b
  | .saxZp b => Encoded.saxZp b
  | .nopImm89 b => Encoded.nopImm89 b
  | .styAbs w => Encoded.styAbs w
  | .staAbs w => Encoded.staAbs w
  | .stxAbs w => Encoded.stxAbs w
  | .saxAbs w => Encoded.saxAbs w
  | .bcc b => Encoded.bcc b
  | .staIndy b => Encoded.staIndy b
  | .styZpx b => Encoded.styZpx b
  | .staZpx b => Encoded.staZpx b
  | .stxZpy b => Encoded.stxZpy b
  | .saxZpy b => Encoded.saxZpy b
  | .staAbsy w => Encoded.staAbsy w
  | .staAbsx w => Encoded.staAbsx w
  | .ldyImm b => Encoded.ldyImm b
  | .ldaIndx b => Encoded.ldaIndx b
  | .ldxImm b => Encoded.ldxImm b
  | .laxIndx b => Encoded.laxIndx b
  | .ldyZp b => Encoded.ldyZp b
  | .ldaZp b => Encoded.ldaZp b
  | .ldxZp b => Encoded.ldxZp b
  | .laxZp b => Encoded.laxZp b
  | .ldaImm b => Encoded.ldaImm b
  | .ldyAbs w => Encoded.ldyAbs w
  | .ldaAbs w => Encoded.ldaAbs w
  | .ldxAbs w => Encoded.ldxAbs w
  | .laxAbs w => Encoded.laxAbs w
  | .bcs b => Encoded.bcs b
  | .ldaIndy b => Encoded.ldaIndy b
  | .laxIndy b => Encoded.laxIndy b
  | .ldyZpx b => Encoded.ldyZpx b
  | .ldaZpx b => Encoded.ldaZpx b
  | .ldxZpy b => Encoded.ldxZpy b
  | .laxZpy b => Encoded.laxZpy b
  | .ldaAbsy w => Encoded.ldaAbsy w
  | .las w => Encoded.las w
  | .ldyAbsx w => Encoded.ldyAbsx w
  | .ldaAbsx w => Encoded.ldaAbsx w
  | .ldxAbsy w => Encoded.ldxAbsy w
  | .laxAbsy w => Encoded.laxAbsy w
  | .cpyImm b => Encoded.cpyImm b
  | .cmpIndx b => Encoded.cmpIndx b
  | .nopImmC2 b => Encoded.nopImmC2 b
  | .dcpIndx b => Encoded.dcpIndx b
  | .cpyZp b => Encoded.cpyZp b
  | .cmpZp b => Encoded.cmpZp b
  | .decZp b => Encoded.decZp b
  | .dcpZp b => Encoded.dcpZp b
  | .cmpImm b => Encoded.cmpImm b
  | .axs b => Encoded.axs b
  | .cpyAbs w => Encoded.cpyAbs w
  | .cmpAbs w => Encoded.cmpAbs w
  | .decAbs w => Encoded.decAbs w
  | .dcpAbs w => Encoded.dcpAbs w
  | .bne b => Encoded.bne b
  | .cmpIndy b => Encoded.cmpIndy b
  | .dcpIndy b => Encoded.dcpIndy b
  | .nopZpxD4 b => Encoded.nopZpxD4 b
  | .cmpZpx b => Encoded.cmpZpx b
  | .decZpx b => Encoded.decZpx b
  | .dcpZpx b => Encoded.dcpZpx b
  | .cmpAbsy w => Encoded.cmpAbsy w
  | .dcpAbsy w => Encoded.dcpAbsy w
  | .nopAbsxDC w => Encoded.nopAbsxDC w
  | .cmpAbsx w => Encoded.cmpAbsx w
  | .decAbsx w => Encoded.decAbsx w
  | .dcpAbsx w => Encoded.dcpAbsx w
  | .cpxImm b => Encoded.cpxImm b
  | .sbcIndx b => Encoded.sbcIndx b
  | .nopImmE2 b => Encoded.nopImmE2 b
  | .iscIndx b => Encoded.iscIndx b
  | .cpxZp b => Encoded.cpxZp b
  | .sbcZp b => Encoded.sbcZp b
  | .incZp b => Encoded.incZp b
  | .iscZp b => Encoded.iscZp b
  | .sbcImm b => Encoded.sbcImm b
  | .sbcImmEB b => Encoded.sbcImmEB b
  | .cpxAbs w => Encoded.cpxAbs w
  | .sbcAbs w => Encoded.sbcAbs w
  | .incAbs w => Encoded.incAbs w
  | .iscAbs w => Encoded.iscAbs w
  | .beq b => Encoded.beq b
  | .sbcIndy b => Encoded.sbcIndy b
  | .iscIndy b => Encoded.iscIndy b
  | .nopZpxF4 b => Encoded.nopZpxF4 b
  | .sbcZpx b => Encoded.sbcZpx b
  | .incZpx b => Encoded.incZpx b
  | .iscZpx b => Encoded.iscZpx b
  | .sbcAbsy w => Encoded.sbcAbsy w
  | .iscAbsy w => Encoded.iscAbsy w
  | .nopAbsxFC w => Encoded.nopAbsxFC w
  | .sbcAbsx w => Encoded.sbcAbsx w
  | .incAbsx w => Encoded.incAbsx w
  | .iscAbsx w => Encoded.iscAbsx w
  | .brk => Encoded.brk
  | .jam02 => Encoded.jam02
  | .php => Encoded.php
  | .aslAcc => Encoded.aslAcc
  | .jam12 => Encoded.jam12
  | .clc => Encoded.clc
  | .nopImp1A => Encoded.nopImp1A
  | .jam22 => Encoded.jam22
  | .plp => Encoded.plp
  | .rolAcc => Encoded.rolAcc
  | .jam32 => Encoded.jam32
  | .sec => Encoded.sec
  | .nopImp3A => Encoded.nopImp3A
  | .rti => Encoded.rti
  | .jam42 => Encoded.jam42
  | .pha => Encoded.pha
  | .lsrAcc => Encoded.lsrAcc
  | .jam52 => Encoded.jam52
  | .cli => Encoded.cli
  | .nopImp5A => Encoded.nopImp5A
  | .rts => Encoded.rts
  | .jam62 => Encoded.jam62
  | .pla => Encoded.pla
  | .rorAcc => Encoded.rorAcc
  | .jam72 => Encoded.jam72
  | .sei => Encoded.sei
  | .nopImp7A => Encoded.nopImp7A
  | .dey => Encoded.dey
  | .txa => Encoded.txa
  | .ane => Encoded.ane
  | .jam92 => Encoded.jam92
  | .shaIndy => Encoded.shaIndy
  | .tya => Encoded.tya
  | .txs => Encoded.txs
  | .shs => Encoded.shs
  | .shy => Encoded.shy
  | .shx => Encoded.shx
  | .shaAbsy => Encoded.shaAbsy
  | .tay => Encoded.tay
  | .tax => Encoded.tax
  | .lxa => Encoded.lxa
  | .jamB2 => Encoded.jamB2
  | .clv => Encoded.clv
  | .tsx => Encoded.tsx
  | .iny => Encoded.iny
  | .dex => Encoded.dex
  | .jamD2 => Encoded.jamD2
  | .cld => Encoded.cld
  | .nopImpDA => Encoded.nopImpDA
  | .inx => Encoded.inx
  | .nop => Encoded.nop
  | .jamF2 => Encoded.jamF2
  | .sed => Encoded.sed
  | .nopImpFA => Encoded.nopImpFA

end Sys2Proof.Laws
end

