-- ==== Sys2Proof/Laws/Ppu.lean ====
section
/-! SUPPORT. What a dot of the PPU can do to the devices, said once: the place in the frame moves by one dot, the frame counter follows
it, and nothing changes but the PPU and, by a scanline event, the mapper. -/

namespace Sys2Proof.Machine

/-- The end of a line changes the kept sprites, the pixels and the two sprite flags, at most; it keeps the limit of 8. -/
theorem endOfLine_cases (d : Devices) : ∃ l ls px, endOfLine d =
      { d with ppu := { d.ppu with latches := l, lineSprites := ls, pixels := px } } ∧
    l.vblankFlag = d.ppu.latches.vblankFlag ∧ l.nmiEnable = d.ppu.latches.nmiEnable ∧
    (d.ppu.lineSprites.length ≤ spriteLimit → ls.length ≤ spriteLimit) := by
  unfold endOfLine
  split
  · exact ⟨_, _, _, rfl, rfl, rfl, fun _ => by simp⟩
  · exact ⟨_, _, _, rfl, rfl, rfl, id⟩

/-- A scanline event changes the mapper's state and the mirroring mode, at most. -/
theorem scanlineEvent_cases (d : Devices) : ∃ ms mir, (scanlineEvent d).1 =
    { d with mapper := ms, ppu := { d.ppu with mirroring := mir } } := by
  unfold scanlineEvent
  split
  · split
    · exact ⟨_, _, rfl⟩
    · exact applyMapper_cases d _
  · exact ⟨_, _, rfl⟩

/-- Within a line no event happens. -/
theorem withinLine_quiet {r : Region} {t : PpuTiming} (h : withinLine r t = true) :
    entersVBlank t (nextDot r t) = false ∧ completesFrame t (nextDot r t) = false := by
  rw [nextDot, if_pos h, entersVBlank, completesFrame]
  cases t.phase <;> simp

/-- Everything a dot can do: the place in the frame is the next one, a completed frame is counted, the VBlank flag is set on entry
and the NMI then signalled if it is enabled (60_exceptions.md R551); the cartridge, VRAM, OAM, APU, controllers and history stay. -/
theorem stepDot_cases (r : Region) (d : Devices) :
    ∃ ms l mir ls px, (stepDot r d).1 =
        { d with
          mapper := ms
          ppu :=
            { timing := nextDot r d.ppu.timing
              latches := l
              mirroring := mir
              lineSprites := ls
              pixels := px
              frames := d.ppu.frames + (completesFrame d.ppu.timing (nextDot r d.ppu.timing)).toNat } } ∧
      l.vblankFlag = (d.ppu.latches.vblankFlag || entersVBlank d.ppu.timing (nextDot r d.ppu.timing)) ∧
      (stepDot r d).2.nmi = (entersVBlank d.ppu.timing (nextDot r d.ppu.timing) && d.ppu.latches.nmiEnable) ∧
      (d.ppu.lineSprites.length ≤ spriteLimit → ls.length ≤ spriteLimit) := by
  by_cases h : withinLine r d.ppu.timing = true
  · obtain ⟨h1, h2⟩ := withinLine_quiet h
    refine ⟨d.mapper, d.ppu.latches, d.ppu.mirroring, d.ppu.lineSprites, d.ppu.pixels, ?_, ?_, ?_, id⟩
    · simp only [stepDot, if_pos h, h2, Bool.toNat_false, Nat.add_zero]
    · simp only [h1, Bool.or_false]
    · simp only [stepDot, if_pos h, h1, Bool.false_and]
  · obtain ⟨l, ls, px, he, hv, hn, hs⟩ := endOfLine_cases d
    obtain ⟨ms, mir, hm⟩ := scanlineEvent_cases
      { d with
        ppu :=
          { d.ppu with
            timing := nextDot r d.ppu.timing
            latches := { l with vblankFlag := l.vblankFlag || entersVBlank d.ppu.timing (nextDot r d.ppu.timing) }
            lineSprites := ls
            pixels := px
            frames := d.ppu.frames + (completesFrame d.ppu.timing (nextDot r d.ppu.timing)).toNat } }
    refine ⟨ms, { l with vblankFlag := l.vblankFlag || entersVBlank d.ppu.timing (nextDot r d.ppu.timing) }, mir, ls, px,
      ?_, ?_, ?_, hs⟩
    · simp only [stepDot, if_neg h, he]
      exact hm
    · simp only [hv]
    · simp only [stepDot, if_neg h, he, hn]

theorem stepDot_wf {r : Region} {d : Devices} (h : Devices.wf r d = true) : Devices.wf r (stepDot r d).1 = true := by
  obtain ⟨ms, l, mir, ls, px, he, -, -, hs⟩ := stepDot_cases r d
  rw [Devices.wf_iff] at h ⊢
  rw [he]
  exact ⟨h.1, h.2.1, nextDot_inFrame h.2.2.1, hs h.2.2.2.1, h.2.2.2.2⟩

/-- Everything a number of dots can do: the PPU and the mapper change, and the pending bits may be set (R513, R514); the PPU's place
and its count of frames go as `dotsRun` says, and the devices stay well formed. -/
theorem advanceDots_state (k : Nat) (s : State) : ∃ ms p n q,
    advanceDots k s =
        { s with
          dev := { s.dev with mapper := ms, ppu := p }
          nmiPending := s.nmiPending || n
          irqPending := s.irqPending || q } ∧
      p.timing = (dotsRun s.session.region k s.dev.ppu.timing).1 ∧
      p.frames = s.dev.ppu.frames + (dotsRun s.session.region k s.dev.ppu.timing).2.2 ∧
      (Devices.wf s.session.region s.dev = true →
        Devices.wf s.session.region { s.dev with mapper := ms, ppu := p } = true) := by
  induction k generalizing s with
  | zero => exact ⟨s.dev.mapper, s.dev.ppu, false, false, by simp [advanceDots], rfl, rfl, id⟩
  | succ k ih =>
    obtain ⟨ms, l, mir, ls, px, he, -, -, -⟩ := stepDot_cases s.session.region s.dev
    have hw := @stepDot_wf s.session.region s.dev
    obtain ⟨ms', p, n, q, hi, ht, hf, hk⟩ := ih
      { s with
        dev := (stepDot s.session.region s.dev).1
        nmiPending := s.nmiPending || (stepDot s.session.region s.dev).2.nmi
        irqPending := s.irqPending || (stepDot s.session.region s.dev).2.irq }
    rw [he] at hi ht hf hk hw
    refine ⟨ms', p, (stepDot s.session.region s.dev).2.nmi || n, (stepDot s.session.region s.dev).2.irq || q, ?_, ht, ?_,
      fun h => hk (hw h)⟩
    · simp only [advanceDots, he]
      rw [hi]
      simp only [Bool.or_assoc]
    · rw [hf]
      simp only [dotsRun]
      omega

theorem advanceDots_inv (k : Nat) {s : State} (h : s.Inv) : (advanceDots k s).Inv := by
  obtain ⟨ms, p, n, q, he, -, -, hw⟩ := advanceDots_state k s
  rw [he]
  exact ⟨h.1, hw h.2⟩

/-- The PPU's reset leaves a PPU of the frame with at most 8 sprites kept, and memories in form. -/
theorem ppuReset_wf {r : Region} {d : Devices} (h : Devices.wf r d = true) (init : MemInit) :
    Devices.wf r (ppuReset r init d) = true := by
  rw [Devices.wf_iff] at h ⊢
  refine ⟨Memory.wf_ofBytes _ _, Memory.wf_ofBytes _ _, ?_, ?_, h.2.2.2.2⟩
  · simp only [ppuReset]
    split
    · assumption
    · exact frameStart_inFrame r
  · simp [ppuReset]

/-- The PPU's reset takes the mirroring mode of the loaded ROM again (20_memory.md R128, 70_reset_and_hazards.md R601). -/
theorem ppuReset_mirroring (r : Region) (init : MemInit) (d : Devices) (c : Cartridge) (h : d.cart = some c) :
    (ppuReset r init d).ppu.mirroring = c.mirroring := by
  simp [ppuReset, h]

end Sys2Proof.Machine
end

