-- ==== Sys2Proof/Laws/Session.lean ====
section
/-! SUPPORT. What the session's operations can do: the ticks of a step, the APU's advance, the blocks of a save buffer read back or
missed, the calls that start, stop and tear down, and where a run ends. -/

namespace Sys2Proof.Machine

/-- NTSC: 3 dots for each cycle, with no fraction (60_exceptions.md R570). -/
@[simp] theorem ticksFor_ntsc (total cycles : Nat) : ticksFor (dotsPerCpuCycle .ntsc) total cycles = 3 * cycles := by
  simp only [ticksFor, dotsPerCpuCycle, Nat.zero_add, Nat.div_one]
  omega

/-- The ticks of two steps in a row are those of one step of both counts: no fraction is lost. -/
theorem ticksFor_add (r : Ratio) (total m n : Nat) :
    ticksFor r total m + ticksFor r (total + m) n = ticksFor r total (m + n) := by
  unfold ticksFor
  have h1 : total * r.num / (r.denLessOne + 1) ≤ (total + m) * r.num / (r.denLessOne + 1) :=
    Nat.div_le_div_right (Nat.mul_le_mul_right _ (by omega))
  have h2 : (total + m) * r.num / (r.denLessOne + 1) ≤ (total + m + n) * r.num / (r.denLessOne + 1) :=
    Nat.div_le_div_right (Nat.mul_le_mul_right _ (by omega))
  rw [← Nat.add_assoc total m n]
  omega

/-- The APU's advance changes the APU alone, and nothing when it is stopped. -/
theorem advanceApu_cases (k : Nat) (d : Devices) : ∃ u, advanceApu k d = { d with apu := u } := by
  unfold advanceApu
  split
  · exact ⟨_, rfl⟩
  · exact ⟨d.apu, rfl⟩

/-- The APU's clocks never start or stop it. -/
theorem clockApuTimes_running (k : Nat) (u : Apu) : (clockApuTimes k u).running = u.running := by
  induction k generalizing u with
  | zero => rfl
  | succ k ih => exact ih (clockApu u)

/-- What the CPU's reset can do (70_reset_and_hazards.md R600): it sets the registers, the pending bits, `halted` and the count, and
its two reads of the vector change at most the devices. -/
theorem cpuReset_state (r : ResetRegs) (s : State) : ∃ d pc,
    cpuReset r s =
        { s with
          a := r.a
          x := r.x
          y := r.y
          sp := r.sp
          pc := pc
          p := { n := r.n, v := r.v, d := r.d, i := true, z := r.z, c := r.c }
          nmiPending := false
          irqPending := false
          halted := false
          cycles := none
          dev := d } ∧
      (∀ g, Devices.wf g s.dev = true → Devices.wf g d = true) ∧ d.cart = s.dev.cart := by
  simp only [cpuReset]
  generalize hs : ({ s with
    a := r.a
    x := r.x
    y := r.y
    sp := r.sp
    p := { n := r.n, v := r.v, d := r.d, i := true, z := r.z, c := r.c }
    nmiPending := false
    irqPending := false
    halted := false
    cycles := none } : State) = s1
  obtain ⟨d, hd, hw, hc, -⟩ := read16_state resetVector s1
  refine ⟨d, (read16 resetVector s1).1, ?_, ?_, ?_⟩
  · rw [hd, ← hs]
  · rw [← hs] at hw
    exact hw
  · rw [hc, ← hs]

theorem cpuReset_inv (r : ResetRegs) {s : State} (h : s.Inv) : (cpuReset r s).Inv := by
  obtain ⟨d, pc, he, hw, -⟩ := cpuReset_state r s
  rw [he]
  exact ⟨h.1, hw _ h.2⟩

theorem apuReset_wf {g : Region} {d : Devices} (h : Devices.wf g d = true) : Devices.wf g (apuReset d) = true := by
  rw [Devices.wf_iff] at h ⊢
  exact h

/-- A reset of all components leaves a state in form (R601 to R603). -/
theorem resetComponents_inv (r : ResetRegs) (init : MemInit) (c : Cartridge) {s : State} (h : s.Inv) :
    (resetComponents r init c s).Inv := by
  have hd := h.2
  unfold resetComponents
  apply cpuReset_inv
  refine ⟨Memory.wf_ofBytes _ _, apuReset_wf (ppuReset_wf ?_ _)⟩
  rw [Devices.wf_iff] at hd ⊢
  exact hd

/-- A device advance leaves a state in form (R570). -/
theorem advanceDevices_inv (n : Nat) {s : State} (h : s.Inv) : (advanceDevices n s).Inv := by
  unfold advanceDevices
  extract_lets region total s1 s2
  have h2 : s2.Inv := advanceDots_inv _ (s := s1) h
  obtain ⟨u, hu⟩ := advanceApu_cases (ticksFor (Config.apuClocksPerCycle region) total n) s2.dev
  have hd := h2.2
  refine ⟨h2.1, ?_⟩
  change Devices.wf s2.session.region _ = true
  rw [hu, Devices.wf_iff]
  rw [Devices.wf_iff] at hd
  exact hd

/-- Another generator's record cannot be seen in a generator's clock (R555: "five independent generators"). -/
theorem clockChannels_pulse1 (cs : ApuChannels) (c : ApuChannel) :
    clockChannels { cs with pulse1 := c } = { clockChannels cs with pulse1 := clockGenerator .pulse1 c } := rfl

/-- Bytes that stand at the head of a buffer are read back. -/
theorem takeBytes_append (bytes : List Byte) (rest : List SaveItem) {n : Nat} (h : bytes.length = n) :
    takeBytes n (bytes.map .byte ++ rest) = .ok (bytes, rest) := by
  subst h
  induction bytes with
  | nil => rfl
  | cons b bytes ih =>
    simp only [List.length_cons, List.map_cons, List.cons_append, takeBytes, ih]

/-- A buffer of fewer bytes is truncated (60_exceptions.md R571, I11). -/
theorem takeBytes_short (bytes : List Byte) {n : Nat} (h : bytes.length < n) :
    takeBytes n (bytes.map .byte) = .error .saveTruncated := by
  induction bytes generalizing n with
  | nil =>
    obtain ⟨m, rfl⟩ : ∃ m, n = m + 1 := ⟨n - 1, by simp at h; omega⟩
    rfl
  | cons b bytes ih =>
    obtain ⟨m, rfl⟩ : ∃ m, n = m + 1 := ⟨n - 1, by simp at h; omega⟩
    simp only [List.length_cons, Nat.add_lt_add_iff_right] at h
    simp only [List.map_cons, takeBytes, ih h]

/-- A PPU block that is read is one of the frame with at most 8 sprites kept. -/
theorem takePpu_good {r : Region} {items : List SaveItem} {p : Ppu} (h : takePpu r items = .ok p) : goodPpu r p = true := by
  unfold takePpu at h
  split at h
  · split at h
    · cases h
      assumption
    · cases h
  all_goals cases h

/-- The PPU of the blocks that are read is one of the frame with at most 8 sprites kept. -/
theorem takeBlocks_good {r : Region} {items : List SaveItem} {k : SavedBlocks} (h : takeBlocks r items = .ok k) :
    goodPpu r k.ppu = true := by
  unfold takeBlocks at h
  simp only [bind, Except.bind, pure, Except.pure] at h
  repeat' split at h
  all_goals cases h
  rename_i hp
  exact takePpu_good hp

/-- What `stateLoad` can do: stop and change nothing, or replace every block, in a paused session with the same ROM. -/
theorem stateLoad_next {b : SaveState} {s t : State} (h : stateLoad b s = .next t) :
    runLoopPaused s = true ∧ b.origin = s.dev.cart ∧ ∃ k u, cpuDeserialize k.cpu s = some u ∧
      goodPpu s.session.region k.ppu = true ∧ t = replaceBlocks k u := by
  unfold stateLoad at h
  split at h
  · cases h
  · rename_i hp
    split at h
    · cases h
    · split at h
      · cases h
      · split at h
        · cases h
        · rename_i ho
          split at h
          · cases h
          · rename_i k hk
            split at h
            · cases h
            · rename_i u hu
              cases h
              exact ⟨by simpa using hp, by simpa using ho, k, u, hu, takeBlocks_good hk, rfl⟩

/-- Reading the CPU block changes registers, pending bits and `halted`, nothing else. -/
theorem cpuDeserialize_rest {block : List Byte} {s t : State} (h : cpuDeserialize block s = some t) :
    t.ram = s.ram ∧ t.dev = s.dev ∧ t.session = s.session ∧ t.running = s.running := by
  unfold cpuDeserialize at h
  split at h
  · cases h
    exact ⟨rfl, rfl, rfl, rfl⟩
  · cases h

@[simp] theorem stopEmulation_running (s : State) : (stopEmulation s).running = false := rfl
@[simp] theorem phaseStopped_twice (p : SessionPhase) : phaseStopped (phaseStopped p) = phaseStopped p := by cases p <;> rfl

/-- Stopping twice is stopping once (60_exceptions.md R572: "idempotent"). -/
theorem stopEmulation_twice (s : State) : stopEmulation (stopEmulation s) = stopEmulation s := by
  simp [stopEmulation, endExecution]

@[simp] theorem destroySession_running (s : State) : (destroySession s).running = false := rfl
@[simp] theorem destroySession_phase (s : State) : (destroySession s).session.phase = .destroyed := rfl
@[simp] theorem destroySession_ram (s : State) : (destroySession s).ram = [] := rfl

/-- A destroyed session answers no call but a construction (60_exceptions.md R570, 20_memory.md R113). -/
theorem hostCall_destroyed {c : HostCall} {s : State} (h : s.session.phase = .destroyed)
    (hc : ∀ region r init, c ≠ .construct region r init) : hostCall c s = .refused .outOfPhase := by
  unfold hostCall
  rw [if_neg]
  rw [h]
  cases c
  case construct region r init => exact absurd rfl (hc region r init)
  all_goals simp [callAllowed]

/-- A call that has a next state was allowed, and did what the call does. -/
theorem hostCall_next {c : HostCall} {s t : State} (h : hostCall c s = .next t) :
    callAllowed s.session.phase c = true ∧ makeCall c s = .next t := by
  unfold hostCall at h
  split at h
  · exact ⟨‹_›, h⟩
  · cases h

/-- Where a run ends (70_reset_and_hazards.md R630): it has come there by some of the calls, the boundary ends it, and no boundary
before it does. -/
theorem runToEnd_iff (e : Word) (calls : List HostCall) (s t : State) :
    runToEnd e calls s = some t ↔
      ∃ k ≤ calls.length, runCalls (calls.take k) s = .next t ∧ endOfRun e t ∧
        ∀ j < k, ∀ u, runCalls (calls.take j) s = .next u → ¬endOfRun e u := by
  induction calls generalizing s with
  | nil =>
    constructor
    · intro h
      by_cases hs : endOfRun e s
      · simp only [runToEnd, hs, if_true, Option.some.injEq] at h
        exact ⟨0, le_refl 0, by simp [runCalls, h], h ▸ hs, by simp⟩
      · simp [runToEnd, hs] at h
    · rintro ⟨k, -, hr, ht, -⟩
      simp only [List.take_nil, runCalls, Host.Outcome.next.injEq] at hr
      subst hr
      simp [runToEnd, ht]
  | cons c cs ih =>
    by_cases hs : endOfRun e s
    · simp only [runToEnd, hs, if_true, Option.some.injEq]
      constructor
      · rintro rfl
        exact ⟨0, Nat.zero_le _, rfl, hs, by simp⟩
      · rintro ⟨k, -, hr, -, hfirst⟩
        cases k with
        | zero => simpa [runCalls] using hr
        | succ k => exact absurd hs (hfirst 0 (Nat.succ_pos k) s rfl)
    · simp only [runToEnd, hs, if_false]
      constructor
      · intro h
        cases hc : hostCall c s with
        | next v =>
          rw [hc] at h
          obtain ⟨k, hk, hr, ht, hfirst⟩ := (ih v).mp h
          refine ⟨k + 1, by simpa using hk, by simpa [runCalls, hc] using hr, ht, fun j hj u hu => ?_⟩
          cases j with
          | zero => simp only [List.take_zero, runCalls, Host.Outcome.next.injEq] at hu; exact hu ▸ hs
          | succ j => exact hfirst j (by omega) u (by simpa [runCalls, hc] using hu)
        | fault f => simp [hc] at h
        | refused r => simp [hc] at h
      · rintro ⟨k, hk, hr, ht, hfirst⟩
        cases k with
        | zero => simp only [List.take_zero, runCalls, Host.Outcome.next.injEq] at hr; exact absurd (hr ▸ ht) hs
        | succ k =>
          cases hc : hostCall c s with
          | next v =>
            refine (ih v).mpr ⟨k, by simpa using hk, by simpa [runCalls, hc] using hr, ht, fun j hj u hu => ?_⟩
            exact hfirst (j + 1) (by omega) u (by simpa [runCalls, hc] using hu)
          | fault f => simp [runCalls, hc] at hr
          | refused r => simp [runCalls, hc] at hr

/-- A run that has ended does not depend on the calls made after its end. -/
theorem runToEnd_append {e : Word} {calls : List HostCall} {s t : State} (more : List HostCall)
    (h : runToEnd e calls s = some t) : runToEnd e (calls ++ more) s = some t := by
  obtain ⟨k, hk, hr, ht, hfirst⟩ := (runToEnd_iff e calls s t).mp h
  refine (runToEnd_iff e (calls ++ more) s t).mpr ⟨k, by simp; omega, ?_, ht, fun j hj => ?_⟩
  · rwa [List.take_append_of_le_length hk]
  · rw [List.take_append_of_le_length (by omega)]
    exact hfirst j hj

end Sys2Proof.Machine
end

