-- ==== Sys2Proof/Tests/Slice0.lean ====
section
/-! SUPPORT. The model's own tests: ill-formed assembler lines, every opcode byte's decoding, the vectors of 95_test_vectors.md
as single steps, and for each statement with hypotheses a witness that meets them. Expected results are the spec's. -/

namespace Sys2Proof.Tests

open Sys2Proof Sys2Proof.Machine Sys2Proof.Claims

/-- The six flags in the order of 95_test_vectors.md, 1 for set. -/
def flags (n v d i z c : Nat) : Flags := ⟨n == 1, v == 1, d == 1, i == 1, z == 1, c == 1⟩

/-- The start state of 95_test_vectors.md with the instruction's bytes at pc. -/
def cpuAt (pc : Word) (bytes : List Byte) : State :=
  { State.reset with
    pc := pc
    sp := 0xFD
    p := flags 0 0 0 0 0 0
    running := true
    ram := Memory.load (ramIndex pc) bytes [] }

/-- The start state of 95_test_vectors.md: the instruction's bytes at $0200. -/
def cpu (bytes : List Byte) : State := cpuAt 0x0200 bytes

/-- The state with a RAM byte set. -/
def put (a : Nat) (v : Byte) (s : State) : State := { s with ram := Memory.write s.ram (a % 0x800) v }

/-- The answer is a next state with the property. -/
def sees (r : Result) (p : State → Bool) : Bool :=
  match r with
  | .next t => p t
  | .fault _ | .refused _ => false

/-- What the decoder reads at the head of each list of bytes. -/
def reads (words : List (List Byte)) : List (Option Instr) :=
  words.map (fun w => ((decode w).toOption).map (fun r => r.1))

/-! ### Ill-formed assembler lines (R229): each is refused -/

/-- R303: STA has no immediate mode. -/
theorem test_form_sta_immediate : Form.wellFormed ⟨.sta, .immediate 0x10⟩ = false := by decide

/-- R358: BIT has no immediate mode. -/
theorem test_form_bit_immediate : Form.wellFormed ⟨.bit, .immediate 0x10⟩ = false := by decide

/-- R301: LDX is indexed by Y in page 0, not by X. -/
theorem test_form_ldx_zpx : Form.wellFormed ⟨.ldx, .memory (.zpx 0x10)⟩ = false := by decide

/-- R304: STX has no indexed absolute mode. -/
theorem test_form_stx_absy : Form.wellFormed ⟨.stx, .memory (.absy 0x1234)⟩ = false := by decide

/-- R345: INC has no accumulator mode. -/
theorem test_form_inc_acc : Form.wellFormed ⟨.inc, .accumulator⟩ = false := by decide

/-- R376: JSR has no indirect mode, and R310: TAX has no operand. -/
theorem test_form_jsr_tax :
    Form.wellFormed ⟨.jsr, .memory (.ind 0x1234)⟩ = false ∧ Form.wellFormed ⟨.tax, .immediate 0⟩ = false := by decide

/-- R386: a branch has the relative mode alone. -/
theorem test_form_bpl_abs : Form.wellFormed ⟨.bpl, .memory (.abs 0x1234)⟩ = false := by decide

/-- R228: a halting mnemonic is no assembler line. -/
theorem test_form_jam : Form.wellFormed ⟨.jam, .implied⟩ = false ∧ Form.wellFormed ⟨.ane, .immediate 0⟩ = false := by decide

/-- R229: the zero-page mode is chosen for an address below $0100 where the mnemonic has one (`LDA $10`), and the absolute mode
where it has none (`LDA $10,Y`). -/
theorem test_form_choice :
    assembleDirect .lda .zp .abs 0x0010 = ⟨.lda, .memory (.zp 0x10)⟩ ∧
      assembleDirect .lda .zpy .absy 0x0010 = ⟨.lda, .memory (.absy 0x0010)⟩ ∧
      assembleDirect .lda .zp .abs 0x0100 = ⟨.lda, .memory (.abs 0x0100)⟩ := by decide

/-! ### Decoding: every opcode byte, with operand bytes $34 $12 where it has any -/

/-- Opcode bytes $00 to $0F (R190, R191). -/
theorem test_decode_row_0 : reads
      [[0x00], [0x01, 0x34], [0x02], [0x03, 0x34], [0x04, 0x34], [0x05, 0x34], [0x06, 0x34], [0x07, 0x34], [0x08],
       [0x09, 0x34], [0x0A], [0x0B, 0x34], [0x0C, 0x34, 0x12], [0x0D, 0x34, 0x12], [0x0E, 0x34, 0x12],
       [0x0F, 0x34, 0x12]] =
    List.map some
      [.brk, .oraIndx 0x34, .jam02, .sloIndx 0x34, .nopZp04 0x34, .oraZp 0x34, .aslZp 0x34, .sloZp 0x34, .php,
       .oraImm 0x34, .aslAcc, .ancImm0B 0x34, .nopAbs0C 0x1234, .oraAbs 0x1234, .aslAbs 0x1234, .sloAbs 0x1234] := by
  decide

/-- Opcode bytes $10 to $1F (R190, R191). -/
theorem test_decode_row_1 : reads
      [[0x10, 0x34], [0x11, 0x34], [0x12], [0x13, 0x34], [0x14, 0x34], [0x15, 0x34], [0x16, 0x34], [0x17, 0x34],
       [0x18], [0x19, 0x34, 0x12], [0x1A], [0x1B, 0x34, 0x12], [0x1C, 0x34, 0x12], [0x1D, 0x34, 0x12],
       [0x1E, 0x34, 0x12], [0x1F, 0x34, 0x12]] =
    List.map some
      [.bpl 0x34, .oraIndy 0x34, .jam12, .sloIndy 0x34, .nopZpx14 0x34, .oraZpx 0x34, .aslZpx 0x34, .sloZpx 0x34,
       .clc, .oraAbsy 0x1234, .nopImp1A, .sloAbsy 0x1234, .nopAbsx1C 0x1234, .oraAbsx 0x1234, .aslAbsx 0x1234,
       .sloAbsx 0x1234] := by
  decide

/-- Opcode bytes $20 to $2F (R190, R191). -/
theorem test_decode_row_2 : reads
      [[0x20, 0x34, 0x12], [0x21, 0x34], [0x22], [0x23, 0x34], [0x24, 0x34], [0x25, 0x34], [0x26, 0x34],
       [0x27, 0x34], [0x28], [0x29, 0x34], [0x2A], [0x2B, 0x34], [0x2C, 0x34, 0x12], [0x2D, 0x34, 0x12],
       [0x2E, 0x34, 0x12], [0x2F, 0x34, 0x12]] =
    List.map some
      [.jsr 0x1234, .andIndx 0x34, .jam22, .rlaIndx 0x34, .bitZp 0x34, .andZp 0x34, .rolZp 0x34, .rlaZp 0x34, .plp,
       .andImm 0x34, .rolAcc, .ancImm2B 0x34, .bitAbs 0x1234, .andAbs 0x1234, .rolAbs 0x1234, .rlaAbs 0x1234] := by
  decide

/-- Opcode bytes $30 to $3F (R190, R191). -/
theorem test_decode_row_3 : reads
      [[0x30, 0x34], [0x31, 0x34], [0x32], [0x33, 0x34], [0x34, 0x34], [0x35, 0x34], [0x36, 0x34], [0x37, 0x34],
       [0x38], [0x39, 0x34, 0x12], [0x3A], [0x3B, 0x34, 0x12], [0x3C, 0x34, 0x12], [0x3D, 0x34, 0x12],
       [0x3E, 0x34, 0x12], [0x3F, 0x34, 0x12]] =
    List.map some
      [.bmi 0x34, .andIndy 0x34, .jam32, .rlaIndy 0x34, .nopZpx34 0x34, .andZpx 0x34, .rolZpx 0x34, .rlaZpx 0x34,
       .sec, .andAbsy 0x1234, .nopImp3A, .rlaAbsy 0x1234, .nopAbsx3C 0x1234, .andAbsx 0x1234, .rolAbsx 0x1234,
       .rlaAbsx 0x1234] := by
  decide

/-- Opcode bytes $40 to $4F (R190, R191). -/
theorem test_decode_row_4 : reads
      [[0x40], [0x41, 0x34], [0x42], [0x43, 0x34], [0x44, 0x34], [0x45, 0x34], [0x46, 0x34], [0x47, 0x34], [0x48],
       [0x49, 0x34], [0x4A], [0x4B, 0x34], [0x4C, 0x34, 0x12], [0x4D, 0x34, 0x12], [0x4E, 0x34, 0x12],
       [0x4F, 0x34, 0x12]] =
    List.map some
      [.rti, .eorIndx 0x34, .jam42, .sreIndx 0x34, .nopZp44 0x34, .eorZp 0x34, .lsrZp 0x34, .sreZp 0x34, .pha,
       .eorImm 0x34, .lsrAcc, .alr 0x34, .jmpAbs 0x1234, .eorAbs 0x1234, .lsrAbs 0x1234, .sreAbs 0x1234] := by
  decide

/-- Opcode bytes $50 to $5F (R190, R191). -/
theorem test_decode_row_5 : reads
      [[0x50, 0x34], [0x51, 0x34], [0x52], [0x53, 0x34], [0x54, 0x34], [0x55, 0x34], [0x56, 0x34], [0x57, 0x34],
       [0x58], [0x59, 0x34, 0x12], [0x5A], [0x5B, 0x34, 0x12], [0x5C, 0x34, 0x12], [0x5D, 0x34, 0x12],
       [0x5E, 0x34, 0x12], [0x5F, 0x34, 0x12]] =
    List.map some
      [.bvc 0x34, .eorIndy 0x34, .jam52, .sreIndy 0x34, .nopZpx54 0x34, .eorZpx 0x34, .lsrZpx 0x34, .sreZpx 0x34,
       .cli, .eorAbsy 0x1234, .nopImp5A, .sreAbsy 0x1234, .nopAbsx5C 0x1234, .eorAbsx 0x1234, .lsrAbsx 0x1234,
       .sreAbsx 0x1234] := by
  decide

/-- Opcode bytes $60 to $6F (R190, R191). -/
theorem test_decode_row_6 : reads
      [[0x60], [0x61, 0x34], [0x62], [0x63, 0x34], [0x64, 0x34], [0x65, 0x34], [0x66, 0x34], [0x67, 0x34], [0x68],
       [0x69, 0x34], [0x6A], [0x6B, 0x34], [0x6C, 0x34, 0x12], [0x6D, 0x34, 0x12], [0x6E, 0x34, 0x12],
       [0x6F, 0x34, 0x12]] =
    List.map some
      [.rts, .adcIndx 0x34, .jam62, .rraIndx 0x34, .nopZp64 0x34, .adcZp 0x34, .rorZp 0x34, .rraZp 0x34, .pla,
       .adcImm 0x34, .rorAcc, .arr 0x34, .jmpInd 0x1234, .adcAbs 0x1234, .rorAbs 0x1234, .rraAbs 0x1234] := by
  decide

/-- Opcode bytes $70 to $7F (R190, R191). -/
theorem test_decode_row_7 : reads
      [[0x70, 0x34], [0x71, 0x34], [0x72], [0x73, 0x34], [0x74, 0x34], [0x75, 0x34], [0x76, 0x34], [0x77, 0x34],
       [0x78], [0x79, 0x34, 0x12], [0x7A], [0x7B, 0x34, 0x12], [0x7C, 0x34, 0x12], [0x7D, 0x34, 0x12],
       [0x7E, 0x34, 0x12], [0x7F, 0x34, 0x12]] =
    List.map some
      [.bvs 0x34, .adcIndy 0x34, .jam72, .rraIndy 0x34, .nopZpx74 0x34, .adcZpx 0x34, .rorZpx 0x34, .rraZpx 0x34,
       .sei, .adcAbsy 0x1234, .nopImp7A, .rraAbsy 0x1234, .nopAbsx7C 0x1234, .adcAbsx 0x1234, .rorAbsx 0x1234,
       .rraAbsx 0x1234] := by
  decide

/-- Opcode bytes $80 to $8F (R190, R191). -/
theorem test_decode_row_8 : reads
      [[0x80, 0x34], [0x81, 0x34], [0x82, 0x34], [0x83, 0x34], [0x84, 0x34], [0x85, 0x34], [0x86, 0x34],
       [0x87, 0x34], [0x88], [0x89, 0x34], [0x8A], [0x8B], [0x8C, 0x34, 0x12], [0x8D, 0x34, 0x12],
       [0x8E, 0x34, 0x12], [0x8F, 0x34, 0x12]] =
    List.map some
      [.nopImm80 0x34, .staIndx 0x34, .nopImm82 0x34, .saxIndx 0x34, .styZp 0x34, .staZp 0x34, .stxZp 0x34,
       .saxZp 0x34, .dey, .nopImm89 0x34, .txa, .ane, .styAbs 0x1234, .staAbs 0x1234, .stxAbs 0x1234, .saxAbs 0x1234] := by
  decide

/-- Opcode bytes $90 to $9F (R190, R191). -/
theorem test_decode_row_9 : reads
      [[0x90, 0x34], [0x91, 0x34], [0x92], [0x93], [0x94, 0x34], [0x95, 0x34], [0x96, 0x34], [0x97, 0x34], [0x98],
       [0x99, 0x34, 0x12], [0x9A], [0x9B], [0x9C], [0x9D, 0x34, 0x12], [0x9E], [0x9F]] =
    List.map some
      [.bcc 0x34, .staIndy 0x34, .jam92, .shaIndy, .styZpx 0x34, .staZpx 0x34, .stxZpy 0x34, .saxZpy 0x34, .tya,
       .staAbsy 0x1234, .txs, .shs, .shy, .staAbsx 0x1234, .shx, .shaAbsy] := by
  decide

/-- Opcode bytes $A0 to $AF (R190, R191). -/
theorem test_decode_row_a : reads
      [[0xA0, 0x34], [0xA1, 0x34], [0xA2, 0x34], [0xA3, 0x34], [0xA4, 0x34], [0xA5, 0x34], [0xA6, 0x34],
       [0xA7, 0x34], [0xA8], [0xA9, 0x34], [0xAA], [0xAB], [0xAC, 0x34, 0x12], [0xAD, 0x34, 0x12],
       [0xAE, 0x34, 0x12], [0xAF, 0x34, 0x12]] =
    List.map some
      [.ldyImm 0x34, .ldaIndx 0x34, .ldxImm 0x34, .laxIndx 0x34, .ldyZp 0x34, .ldaZp 0x34, .ldxZp 0x34, .laxZp 0x34,
       .tay, .ldaImm 0x34, .tax, .lxa, .ldyAbs 0x1234, .ldaAbs 0x1234, .ldxAbs 0x1234, .laxAbs 0x1234] := by
  decide

/-- Opcode bytes $B0 to $BF (R190, R191). -/
theorem test_decode_row_b : reads
      [[0xB0, 0x34], [0xB1, 0x34], [0xB2], [0xB3, 0x34], [0xB4, 0x34], [0xB5, 0x34], [0xB6, 0x34], [0xB7, 0x34],
       [0xB8], [0xB9, 0x34, 0x12], [0xBA], [0xBB, 0x34, 0x12], [0xBC, 0x34, 0x12], [0xBD, 0x34, 0x12],
       [0xBE, 0x34, 0x12], [0xBF, 0x34, 0x12]] =
    List.map some
      [.bcs 0x34, .ldaIndy 0x34, .jamB2, .laxIndy 0x34, .ldyZpx 0x34, .ldaZpx 0x34, .ldxZpy 0x34, .laxZpy 0x34, .clv,
       .ldaAbsy 0x1234, .tsx, .las 0x1234, .ldyAbsx 0x1234, .ldaAbsx 0x1234, .ldxAbsy 0x1234, .laxAbsy 0x1234] := by
  decide

/-- Opcode bytes $C0 to $CF (R190, R191). -/
theorem test_decode_row_c : reads
      [[0xC0, 0x34], [0xC1, 0x34], [0xC2, 0x34], [0xC3, 0x34], [0xC4, 0x34], [0xC5, 0x34], [0xC6, 0x34],
       [0xC7, 0x34], [0xC8], [0xC9, 0x34], [0xCA], [0xCB, 0x34], [0xCC, 0x34, 0x12], [0xCD, 0x34, 0x12],
       [0xCE, 0x34, 0x12], [0xCF, 0x34, 0x12]] =
    List.map some
      [.cpyImm 0x34, .cmpIndx 0x34, .nopImmC2 0x34, .dcpIndx 0x34, .cpyZp 0x34, .cmpZp 0x34, .decZp 0x34,
       .dcpZp 0x34, .iny, .cmpImm 0x34, .dex, .axs 0x34, .cpyAbs 0x1234, .cmpAbs 0x1234, .decAbs 0x1234,
       .dcpAbs 0x1234] := by
  decide

/-- Opcode bytes $D0 to $DF (R190, R191). -/
theorem test_decode_row_d : reads
      [[0xD0, 0x34], [0xD1, 0x34], [0xD2], [0xD3, 0x34], [0xD4, 0x34], [0xD5, 0x34], [0xD6, 0x34], [0xD7, 0x34],
       [0xD8], [0xD9, 0x34, 0x12], [0xDA], [0xDB, 0x34, 0x12], [0xDC, 0x34, 0x12], [0xDD, 0x34, 0x12],
       [0xDE, 0x34, 0x12], [0xDF, 0x34, 0x12]] =
    List.map some
      [.bne 0x34, .cmpIndy 0x34, .jamD2, .dcpIndy 0x34, .nopZpxD4 0x34, .cmpZpx 0x34, .decZpx 0x34, .dcpZpx 0x34,
       .cld, .cmpAbsy 0x1234, .nopImpDA, .dcpAbsy 0x1234, .nopAbsxDC 0x1234, .cmpAbsx 0x1234, .decAbsx 0x1234,
       .dcpAbsx 0x1234] := by
  decide

/-- Opcode bytes $E0 to $EF (R190, R191). -/
theorem test_decode_row_e : reads
      [[0xE0, 0x34], [0xE1, 0x34], [0xE2, 0x34], [0xE3, 0x34], [0xE4, 0x34], [0xE5, 0x34], [0xE6, 0x34],
       [0xE7, 0x34], [0xE8], [0xE9, 0x34], [0xEA], [0xEB, 0x34], [0xEC, 0x34, 0x12], [0xED, 0x34, 0x12],
       [0xEE, 0x34, 0x12], [0xEF, 0x34, 0x12]] =
    List.map some
      [.cpxImm 0x34, .sbcIndx 0x34, .nopImmE2 0x34, .iscIndx 0x34, .cpxZp 0x34, .sbcZp 0x34, .incZp 0x34,
       .iscZp 0x34, .inx, .sbcImm 0x34, .nop, .sbcImmEB 0x34, .cpxAbs 0x1234, .sbcAbs 0x1234, .incAbs 0x1234,
       .iscAbs 0x1234] := by
  decide

/-- Opcode bytes $F0 to $FF (R190, R191). -/
theorem test_decode_row_f : reads
      [[0xF0, 0x34], [0xF1, 0x34], [0xF2], [0xF3, 0x34], [0xF4, 0x34], [0xF5, 0x34], [0xF6, 0x34], [0xF7, 0x34],
       [0xF8], [0xF9, 0x34, 0x12], [0xFA], [0xFB, 0x34, 0x12], [0xFC, 0x34, 0x12], [0xFD, 0x34, 0x12],
       [0xFE, 0x34, 0x12], [0xFF, 0x34, 0x12]] =
    List.map some
      [.beq 0x34, .sbcIndy 0x34, .jamF2, .iscIndy 0x34, .nopZpxF4 0x34, .sbcZpx 0x34, .incZpx 0x34, .iscZpx 0x34,
       .sed, .sbcAbsy 0x1234, .nopImpFA, .iscAbsy 0x1234, .nopAbsxFC 0x1234, .sbcAbsx 0x1234, .incAbsx 0x1234,
       .iscAbsx 0x1234] := by
  decide

/-- R226, R228: bytes that stop short are no instruction, by name; a halting opcode needs one byte. -/
theorem test_decode_short :
    decode [] = .error .noOpcode ∧ decode [0xA9] = .error (.operandMissing 0xA9) ∧
      decode [0xAD, 0x00] = .error (.operandMissing 0xAD) ∧ decode [0x9C] = .ok (.shy, []) := by decide

/-- R190: bits 7-0 of a table word are the first byte, 15-8 the second, 23-16 the third. -/
theorem test_decode_table_word :
    decodeTableWord 16 0x80A9 = some (.ldaImm 0x80) ∧ decodeTableWord 24 0x1234AD = some (.ldaAbs 0x1234) ∧
      decodeTableWord 8 0x4C = some (.jmpAbs 0x0000) := by decide

/-- R160: the next step after `withFetchWord` runs the placed instruction as the first after reset. -/
theorem test_with_fetch_word :
    sees (step (State.reset.withFetchWord 16 0x80A9)) (fun t => t.a == 0x80 && t.pc == 0x0202 && t.cycles == some 2) = true := by
  decide

/-! ### 40_load_store.md: vectors of 95_test_vectors.md -/

/-- LS1 (R300): Z set, N clear. -/
theorem test_ls1 :
    sees (step { cpu [0xA9, 0x00] with a := 0x55 })
      (fun t => t.a == 0x00 && t.p == flags 0 0 0 0 1 0 && t.cycles == some 2) = true := by
  decide

/-- LS2 (R300): N set. -/
theorem test_ls2 :
    sees (step (cpu [0xA9, 0x80]))
      (fun t => t.a == 0x80 && t.p == flags 1 0 0 0 0 0 && t.cycles == some 2) = true := by
  decide

/-- LS3 (R300, R174): zero-page index wraps: EA = $05, not $0105. -/
theorem test_ls3 :
    sees (step (put 0x0005 0x3C { cpu [0xB5, 0x10] with x := 0xF5 }))
      (fun t => t.a == 0x3C && t.p == flags 0 0 0 0 0 0 && t.cycles == some 4) = true := by
  decide

/-- LS4 (R300, R180, R185): page crossed: 4 + 1 cycles; $1310 is RAM $0310 (mirror). -/
theorem test_ls4 :
    sees (step (put 0x1310 0x99 { cpu [0xBD, 0xF0, 0x12] with x := 0x20 }))
      (fun t => t.a == 0x99 && t.p == flags 1 0 0 0 0 0 && t.cycles == some 5) = true := by
  decide

/-- LS6 (R300, R176): pointer low byte at $FF, high byte at $00. -/
theorem test_ls6 :
    sees (step (put 0x0400 0x7E (put 0x00FF 0x00 (put 0x0000 0x04 (cpu [0xA1, 0xFF])))))
      (fun t => t.a == 0x7E && t.p == flags 0 0 0 0 0 0 && t.cycles == some 6) = true := by
  decide

/-- LS7 (R300, R177, R185): EA = $03F0 + $20 = $0410 crosses a page: 5 + 1 cycles. -/
theorem test_ls7 :
    sees (step (put 0x0410 0xFE (put 0x0041 0x03 (put 0x0040 0xF0 { cpu [0xB1, 0x40] with y := 0x20 }))))
      (fun t => t.a == 0xFE && t.p == flags 1 0 0 0 0 0 && t.cycles == some 6) = true := by
  decide

/-- LS9 (R301, R175): zero-page,Y wraps; loads 0, Z set. -/
theorem test_ls9 :
    sees (step (put 0x0005 0x00 { cpu [0xB6, 0x10] with y := 0xF5 }))
      (fun t => t.p == flags 0 0 0 0 1 0 && t.cycles == some 4) = true := by
  decide

/-- LS10 (R302): N cleared. -/
theorem test_ls10 :
    sees (step { cpu [0xA0, 0x7F] with y := 0x80, p := flags 1 0 0 0 0 0 })
      (fun t => t.y == 0x7F && t.p == flags 0 0 0 0 0 0 && t.cycles == some 2) = true := by
  decide

/-- LS11 (R303, R111): writes RAM[$0000] through the mirror. -/
theorem test_ls11 :
    sees (step { cpu [0x8D, 0x00, 0x18] with a := 0x55 })
      (fun t => t.p == flags 0 0 0 0 0 0 && Memory.read t.ram 0x0000 == 0x55 && t.cycles == some 4) = true := by
  decide

/-- LS12 (R303, R185): write class: always 5 cycles; flags unchanged although A = 0. -/
theorem test_ls12 :
    sees (step { cpu [0x9D, 0xF0, 0x12] with x := 0x20, p := flags 1 0 0 0 0 0 })
      (fun t => t.p == flags 1 0 0 0 0 0 && Memory.read t.ram 0x0310 == 0x00 && t.cycles == some 5) = true := by
  decide

/-- LS13 (R304, R175): EA = ($FF + 1) mod 256 = $00. -/
theorem test_ls13 :
    sees (step { cpu [0x96, 0xFF] with x := 0xAB, y := 0x01 })
      (fun t => t.p == flags 0 0 0 0 0 0 && Memory.read t.ram 0x0000 == 0xAB && t.cycles == some 4) = true := by
  decide

/-- LS14 (R305). -/
theorem test_ls14 :
    sees (step { cpu [0x8C, 0x00, 0x03] with y := 0x12 })
      (fun t => t.p == flags 0 0 0 0 0 0 && Memory.read t.ram 0x0300 == 0x12 && t.cycles == some 4) = true := by
  decide

/-! ### 41_transfer.md: vectors of 95_test_vectors.md -/

/-- TR1 (R310): Z set. -/
theorem test_tr1 :
    sees (step { cpu [0xAA] with x := 0x33 })
      (fun t => t.x == 0x00 && t.p == flags 0 0 0 0 1 0 && t.cycles == some 2) = true := by
  decide

/-- TR2 (R311): N set. -/
theorem test_tr2 :
    sees (step { cpu [0xA8] with a := 0x81 })
      (fun t => t.y == 0x81 && t.p == flags 1 0 0 0 0 0 && t.cycles == some 2) = true := by
  decide

/-- TR3 (R312). -/
theorem test_tr3 :
    sees (step { cpu [0x8A] with a := 0xFF, x := 0x7F, p := flags 1 0 0 0 0 0 })
      (fun t => t.a == 0x7F && t.p == flags 0 0 0 0 0 0 && t.cycles == some 2) = true := by
  decide

/-- TR4 (R313): Z set. -/
theorem test_tr4 :
    sees (step { cpu [0x98] with a := 0x01 })
      (fun t => t.a == 0x00 && t.p == flags 0 0 0 0 1 0 && t.cycles == some 2) = true := by
  decide

/-- TR5 (R314): N set from SP. -/
theorem test_tr5 :
    sees (step { cpu [0xBA] with sp := 0x80 })
      (fun t => t.x == 0x80 && t.p == flags 1 0 0 0 0 0 && t.cycles == some 2) = true := by
  decide

/-- TR6 (R315): no flag changes, although the value is 0. -/
theorem test_tr6 :
    sees (step { cpu [0x9A] with p := flags 1 0 0 0 0 0 })
      (fun t => t.sp == 0x00 && t.p == flags 1 0 0 0 0 0 && t.cycles == some 2) = true := by
  decide

/-! ### 42_stack.md: vectors of 95_test_vectors.md -/

/-- ST1 (R320, R117). -/
theorem test_st1 :
    sees (step { cpu [0x48] with a := 0x42 })
      (fun t => t.sp == 0xFC && t.p == flags 0 0 0 0 0 0 && Memory.read t.ram 0x01FD == 0x42 && t.cycles == some 3) = true := by
  decide

/-- ST2 (R321, R58): pushed byte has B = 1 and bit 5 = 1: $B1. -/
theorem test_st2 :
    sees (step { cpu [0x08] with p := flags 1 0 0 0 0 1 })
      (fun t => t.sp == 0xFC && t.p == flags 1 0 0 0 0 1 && Memory.read t.ram 0x01FD == 0xB1 && t.cycles == some 3) = true := by
  decide

/-- ST3 (R322): Z set. -/
theorem test_st3 :
    sees (step (put 0x01FD 0x00 { cpu [0x68] with a := 0x11, sp := 0xFC }))
      (fun t => t.a == 0x00 && t.sp == 0xFD && t.p == flags 0 0 0 0 1 0 && t.cycles == some 4) = true := by
  decide

/-- ST4 (R323, R58): B and bit 5 are discarded; all six flags set. -/
theorem test_st4 :
    sees (step (put 0x01FD 0xFF { cpu [0x28] with sp := 0xFC }))
      (fun t => t.sp == 0xFD && t.p == flags 1 1 1 1 1 1 && t.cycles == some 4) = true := by
  decide

/-- ST5 (R323): $30 clears all six flags. -/
theorem test_st5 :
    sees (step (put 0x01FD 0x30 { cpu [0x28] with sp := 0xFC, p := flags 1 1 1 1 1 1 }))
      (fun t => t.sp == 0xFD && t.p == flags 0 0 0 0 0 0 && t.cycles == some 4) = true := by
  decide

/-- ST6 (R320, R117): SP wraps from $00 to $FF; write at $0100. -/
theorem test_st6 :
    sees (step { cpu [0x48] with a := 0x99, sp := 0x00 })
      (fun t => t.sp == 0xFF && t.p == flags 0 0 0 0 0 0 && Memory.read t.ram 0x0100 == 0x99 && t.cycles == some 3) = true := by
  decide

/-- ST7 (R322, R117): SP wraps from $FF to $00; read at $0100. -/
theorem test_st7 :
    sees (step (put 0x0100 0x80 { cpu [0x68] with sp := 0xFF }))
      (fun t => t.a == 0x80 && t.sp == 0x00 && t.p == flags 1 0 0 0 0 0 && t.cycles == some 4) = true := by
  decide

/-! ### 43_arithmetic.md: vectors of 95_test_vectors.md -/

/-- AR5 (R330): carry in: $50 + $50 + 1 = $A1, V, N. -/
theorem test_ar5 :
    sees (step { cpu [0x69, 0x50] with a := 0x50, p := flags 0 0 0 0 0 1 })
      (fun t => t.a == 0xA1 && t.p == flags 1 1 0 0 0 0 && t.cycles == some 2) = true := by
  decide

/-- AR6 (R330, R331): D = 1 is ignored: binary $0A, not BCD $10. -/
theorem test_ar6 :
    sees (step { cpu [0x69, 0x01] with a := 0x09, p := flags 0 0 1 0 0 0 })
      (fun t => t.a == 0x0A && t.p == flags 0 0 1 0 0 0 && t.cycles == some 2) = true := by
  decide

/-- AR8 (R333, R342): $50 - $B0 = $A0 with V, N, borrow. -/
theorem test_ar8 :
    sees (step { cpu [0xE9, 0xB0] with a := 0x50, p := flags 0 0 0 0 0 1 })
      (fun t => t.a == 0xA0 && t.p == flags 1 1 0 0 0 0 && t.cycles == some 2) = true := by
  decide

/-- AR9 (R333): borrow in: 0 - 0 - 1 = $FF. -/
theorem test_ar9 :
    sees (step (cpu [0xE9, 0x00]))
      (fun t => t.a == 0xFF && t.p == flags 1 0 0 0 0 0 && t.cycles == some 2) = true := by
  decide

/-- AR13 (R336, R339): less: N, C clear. -/
theorem test_ar13 :
    sees (step { cpu [0xC9, 0x41] with a := 0x40 })
      (fun t => t.p == flags 1 0 0 0 0 0 && t.cycles == some 2) = true := by
  decide

/-- AR14 (R336, R339): unsigned compare: $01 < $FF; result $02. -/
theorem test_ar14 :
    sees (step { cpu [0xC9, 0xFF] with a := 0x01 })
      (fun t => t.p == flags 0 0 0 0 0 0 && t.cycles == some 2) = true := by
  decide

/-- AR15 (R337, R339): C set, N from bit 7 of $80. -/
theorem test_ar15 :
    sees (step { cpu [0xE0, 0x00] with x := 0x80 })
      (fun t => t.p == flags 1 0 0 0 0 1 && t.cycles == some 2) = true := by
  decide

/-- AR16 (R338, R339): $00 - $01 = $FF: N, C clear. -/
theorem test_ar16 :
    sees (step (put 0x0010 0x01 (cpu [0xC4, 0x10])))
      (fun t => t.p == flags 1 0 0 0 0 0 && t.cycles == some 3) = true := by
  decide

/-- AR17 (R330, R344): A + M where M is a copy of A: $40. -/
theorem test_ar17 :
    sees (step (put 0x0010 0x20 { cpu [0x65, 0x10] with a := 0x20 }))
      (fun t => t.a == 0x40 && t.p == flags 0 0 0 0 0 0 && t.cycles == some 3) = true := by
  decide

/-! ### 44_incdec.md: vectors of 95_test_vectors.md -/

/-- ID1 (R345): wraps to 0, Z set; 5 cycles. -/
theorem test_id1 :
    sees (step (put 0x0010 0xFF (cpu [0xE6, 0x10])))
      (fun t => t.p == flags 0 0 0 0 1 0 && Memory.read t.ram 0x0010 == 0x00 && t.cycles == some 5) = true := by
  decide

/-- ID2 (R346): wraps to $FF, N set. -/
theorem test_id2 :
    sees (step (put 0x0010 0x00 (cpu [0xC6, 0x10])))
      (fun t => t.p == flags 1 0 0 0 0 0 && Memory.read t.ram 0x0010 == 0xFF && t.cycles == some 5) = true := by
  decide

/-- ID3 (R345, R185): RMW: 7 cycles, no penalty; $1310 mirrors $0310. -/
theorem test_id3 :
    sees (step (put 0x1310 0x7F { cpu [0xFE, 0xF0, 0x12] with x := 0x20 }))
      (fun t => t.p == flags 1 0 0 0 0 0 && Memory.read t.ram 0x0310 == 0x80 && t.cycles == some 7) = true := by
  decide

/-- ID4 (R347): wraps, Z set. -/
theorem test_id4 :
    sees (step { cpu [0xE8] with x := 0xFF })
      (fun t => t.x == 0x00 && t.p == flags 0 0 0 0 1 0 && t.cycles == some 2) = true := by
  decide

/-- ID5 (R348): N set. -/
theorem test_id5 :
    sees (step { cpu [0xC8] with y := 0x7F })
      (fun t => t.y == 0x80 && t.p == flags 1 0 0 0 0 0 && t.cycles == some 2) = true := by
  decide

/-- ID6 (R349): Z set. -/
theorem test_id6 :
    sees (step { cpu [0xCA] with x := 0x01 })
      (fun t => t.x == 0x00 && t.p == flags 0 0 0 0 1 0 && t.cycles == some 2) = true := by
  decide

/-- ID7 (R350): wraps, N set. -/
theorem test_id7 :
    sees (step (cpu [0x88]))
      (fun t => t.y == 0xFF && t.p == flags 1 0 0 0 0 0 && t.cycles == some 2) = true := by
  decide

/-- ID8 (R346): C and V unchanged. -/
theorem test_id8 :
    sees (step (put 0x0300 0x01 { cpu [0xCE, 0x00, 0x03] with p := flags 0 1 0 0 0 1 }))
      (fun t => t.p == flags 0 1 0 0 1 1 && Memory.read t.ram 0x0300 == 0x00 && t.cycles == some 6) = true := by
  decide

/-! ### 45_logical.md: vectors of 95_test_vectors.md -/

/-- LG1 (R355): Z set. -/
theorem test_lg1 :
    sees (step { cpu [0x29, 0x0F] with a := 0xF0 })
      (fun t => t.a == 0x00 && t.p == flags 0 0 0 0 1 0 && t.cycles == some 2) = true := by
  decide

/-- LG2 (R356): N set. -/
theorem test_lg2 :
    sees (step (cpu [0x09, 0x80]))
      (fun t => t.a == 0x80 && t.p == flags 1 0 0 0 0 0 && t.cycles == some 2) = true := by
  decide

/-- LG3 (R357): Z set. -/
theorem test_lg3 :
    sees (step { cpu [0x49, 0xFF] with a := 0xFF })
      (fun t => t.a == 0x00 && t.p == flags 0 0 0 0 1 0 && t.cycles == some 2) = true := by
  decide

/-- LG4 (R357): complement. -/
theorem test_lg4 :
    sees (step { cpu [0x49, 0xFF] with a := 0x0F })
      (fun t => t.a == 0xF0 && t.p == flags 1 0 0 0 0 0 && t.cycles == some 2) = true := by
  decide

/-- LG5 (R358): N, V from M; Z from A AND M = 0; A unchanged. -/
theorem test_lg5 :
    sees (step (put 0x0010 0xC0 (cpu [0x24, 0x10])))
      (fun t => t.p == flags 1 1 0 0 1 0 && t.cycles == some 3) = true := by
  decide

/-- LG6 (R358): N, V cleared from M, Z clear. -/
theorem test_lg6 :
    sees (step (put 0x0300 0x01 { cpu [0x2C, 0x00, 0x03] with a := 0x01, p := flags 1 1 0 0 1 0 }))
      (fun t => t.p == flags 0 0 0 0 0 0 && t.cycles == some 4) = true := by
  decide

/-- LG7 (R355, R176): 6 cycles. -/
theorem test_lg7 :
    sees (step (put 0x0300 0x81 (put 0x0025 0x03 (put 0x0024 0x00 { cpu [0x21, 0x20] with a := 0xFF, x := 0x04 }))))
      (fun t => t.a == 0x81 && t.p == flags 1 0 0 0 0 0 && t.cycles == some 6) = true := by
  decide

/-! ### 46_shift.md: vectors of 95_test_vectors.md -/

/-- SH1 (R365): C from bit 7, Z. -/
theorem test_sh1 :
    sees (step { cpu [0x0A] with a := 0x80 })
      (fun t => t.a == 0x00 && t.p == flags 0 0 0 0 1 1 && t.cycles == some 2) = true := by
  decide

/-- SH2 (R366): C from bit 0, Z; N always 0. -/
theorem test_sh2 :
    sees (step { cpu [0x4A] with a := 0x01 })
      (fun t => t.a == 0x00 && t.p == flags 0 0 0 0 1 1 && t.cycles == some 2) = true := by
  decide

/-- SH3 (R367): C set, A = 0. -/
theorem test_sh3 :
    sees (step { cpu [0x2A] with a := 0x80 })
      (fun t => t.a == 0x00 && t.p == flags 0 0 0 0 1 1 && t.cycles == some 2) = true := by
  decide

/-- SH4 (R367): carry rotates into bit 0: $81. -/
theorem test_sh4 :
    sees (step { cpu [0x2A] with a := 0x40, p := flags 0 0 0 0 0 1 })
      (fun t => t.a == 0x81 && t.p == flags 1 0 0 0 0 0 && t.cycles == some 2) = true := by
  decide

/-- SH5 (R368): C into bit 7: $80, C from bit 0. -/
theorem test_sh5 :
    sees (step { cpu [0x6A] with a := 0x01, p := flags 0 0 0 0 0 1 })
      (fun t => t.a == 0x80 && t.p == flags 1 0 0 0 0 1 && t.cycles == some 2) = true := by
  decide

/-- SH6 (R365): memory form, 5 cycles. -/
theorem test_sh6 :
    sees (step (put 0x0010 0x40 (cpu [0x06, 0x10])))
      (fun t => t.p == flags 1 0 0 0 0 0 && Memory.read t.ram 0x0010 == 0x80 && t.cycles == some 5) = true := by
  decide

/-- SH7 (R368, R185): RMW abs,X: 7 cycles. -/
theorem test_sh7 :
    sees (step (put 0x1310 0x02 { cpu [0x7E, 0xF0, 0x12] with x := 0x20 }))
      (fun t => t.p == flags 0 0 0 0 0 0 && Memory.read t.ram 0x0310 == 0x01 && t.cycles == some 7) = true := by
  decide

/-- SH8 (R366): N cleared. -/
theorem test_sh8 :
    sees (step (put 0x0010 0xFF { cpu [0x46, 0x10] with p := flags 1 0 0 0 0 0 }))
      (fun t => t.p == flags 0 0 0 0 0 1 && Memory.read t.ram 0x0010 == 0x7F && t.cycles == some 5) = true := by
  decide

/-! ### 47_control.md: vectors of 95_test_vectors.md -/

/-- CF1 (R375): 3 cycles. -/
theorem test_cf1 :
    sees (step (cpu [0x4C, 0x34, 0x12]))
      (fun t => t.pc == 0x1234 && t.cycles == some 3) = true := by
  decide

/-- CF2 (R375, R178): page-wrap defect: high byte read at $0200, not $0300; target $C000, not $6C00. -/
theorem test_cf2 :
    sees (step (put 0x02FF 0x00 (put 0x0200 0xC0 (cpuAt 0x0300 [0x6C, 0xFF, 0x02]))))
      (fun t => t.pc == 0xC000 && t.cycles == some 5) = true := by
  decide

/-- CF3 (R375, R178): normal indirect: $9000, 5 cycles. -/
theorem test_cf3 :
    sees (step (put 0x0281 0x90 (put 0x0280 0x00 (cpu [0x6C, 0x80, 0x02]))))
      (fun t => t.pc == 0x9000 && t.cycles == some 5) = true := by
  decide

/-- CF4 (R376): pushes $02 then $02 (address of JSR + 2 = $0202). -/
theorem test_cf4 :
    sees (step (cpu [0x20, 0x34, 0x12]))
      (fun t => t.sp == 0xFB && t.pc == 0x1234 && Memory.read t.ram 0x01FD == 0x02 && Memory.read t.ram 0x01FC == 0x02 && t.cycles == some 6) = true := by
  decide

/-- CF5 (R377): pulls $0202, adds 1. -/
theorem test_cf5 :
    sees (step (put 0x01FD 0x02 (put 0x01FC 0x02 { cpu [0x60] with sp := 0xFB })))
      (fun t => t.sp == 0xFD && t.pc == 0x0203 && t.cycles == some 6) = true := by
  decide

/-- CF6 (R392, R385, R182): taken, same page: 3 cycles. -/
theorem test_cf6 :
    sees (step (cpu [0xD0, 0x05]))
      (fun t => t.pc == 0x0207 && t.cycles == some 3) = true := by
  decide

/-- CF7 (R392, R385, R182): not taken: 2 cycles. -/
theorem test_cf7 :
    sees (step { cpu [0xD0, 0x05] with p := flags 0 0 0 0 1 0 })
      (fun t => t.pc == 0x0202 && t.cycles == some 2) = true := by
  decide

/-- CF8 (R393, R385, R182): taken backward across a page: $0202 - 4 = $01FE, 4 cycles. -/
theorem test_cf8 :
    sees (step { cpu [0xF0, 0xFC] with p := flags 0 0 0 0 1 0 })
      (fun t => t.pc == 0x01FE && t.cycles == some 4) = true := by
  decide

/-- CF9 (R390, R385, R182): offset +127, crosses to $0371: 4 cycles. -/
theorem test_cf9 :
    sees (step (cpuAt 0x02F0 [0x90, 0x7F]))
      (fun t => t.pc == 0x0371 && t.cycles == some 4) = true := by
  decide

/-- CF10 (R391, R385, R182): offset $80 = -128: $0282 - 128 = $0202. -/
theorem test_cf10 :
    sees (step { cpuAt 0x0280 [0xB0, 0x80] with p := flags 0 0 0 0 0 1 })
      (fun t => t.pc == 0x0202 && t.cycles == some 3) = true := by
  decide

/-- CF11 (R386). -/
theorem test_cf11 :
    sees (step (cpu [0x10, 0x02]))
      (fun t => t.pc == 0x0204 && t.cycles == some 3) = true := by
  decide

/-- CF12 (R387): not taken. -/
theorem test_cf12 :
    sees (step (cpu [0x30, 0x02]))
      (fun t => t.pc == 0x0202 && t.cycles == some 2) = true := by
  decide

/-- CF13 (R388). -/
theorem test_cf13 :
    sees (step (cpu [0x50, 0x02]))
      (fun t => t.pc == 0x0204 && t.cycles == some 3) = true := by
  decide

/-- CF14 (R389). -/
theorem test_cf14 :
    sees (step { cpu [0x70, 0x02] with p := flags 0 1 0 0 0 0 })
      (fun t => t.pc == 0x0204 && t.cycles == some 3) = true := by
  decide

/-! ### 48_flags_system.md: vectors of 95_test_vectors.md -/

/-- FS1 (R400). -/
theorem test_fs1 :
    sees (step { cpu [0x18] with p := flags 0 0 0 0 0 1 })
      (fun t => t.p == flags 0 0 0 0 0 0 && t.cycles == some 2) = true := by
  decide

/-- FS2 (R401). -/
theorem test_fs2 :
    sees (step (cpu [0x38]))
      (fun t => t.p == flags 0 0 0 0 0 1 && t.cycles == some 2) = true := by
  decide

/-- FS3 (R402). -/
theorem test_fs3 :
    sees (step { cpu [0x58] with p := flags 0 0 0 1 0 0 })
      (fun t => t.p == flags 0 0 0 0 0 0 && t.cycles == some 2) = true := by
  decide

/-- FS4 (R403). -/
theorem test_fs4 :
    sees (step (cpu [0x78]))
      (fun t => t.p == flags 0 0 0 1 0 0 && t.cycles == some 2) = true := by
  decide

/-- FS5 (R404). -/
theorem test_fs5 :
    sees (step { cpu [0xD8] with p := flags 0 0 1 0 0 0 })
      (fun t => t.p == flags 0 0 0 0 0 0 && t.cycles == some 2) = true := by
  decide

/-- FS6 (R405). -/
theorem test_fs6 :
    sees (step (cpu [0xF8]))
      (fun t => t.p == flags 0 0 1 0 0 0 && t.cycles == some 2) = true := by
  decide

/-- FS7 (R406). -/
theorem test_fs7 :
    sees (step { cpu [0xB8] with p := flags 0 1 0 0 0 0 })
      (fun t => t.p == flags 0 0 0 0 0 0 && t.cycles == some 2) = true := by
  decide

/-- FS8 (R408): nothing changes but PC. -/
theorem test_fs8 :
    sees (step { cpu [0xEA] with a := 0x12, p := flags 1 0 0 0 0 1 })
      (fun t => t.p == flags 1 0 0 0 0 1 && t.cycles == some 2) = true := by
  decide

/-- FS10 (R410, R530): restores N V Z C from $C3 (I cleared); PC = $0202 exactly, no +1. -/
theorem test_fs10 :
    sees (step (put 0x01FD 0x02 (put 0x01FC 0x02 (put 0x01FB 0xC3 { cpu [0x40] with sp := 0xFA, p := flags 0 0 0 1 0 0 }))))
      (fun t => t.sp == 0xFD && t.pc == 0x0202 && t.p == flags 1 1 0 0 1 1 && t.cycles == some 6) = true := by
  decide

/-! ### 49_undocumented.md: vectors of 95_test_vectors.md -/

/-- UD1 (R421): 2 cycles, length 1. -/
theorem test_ud1 :
    sees (step { cpu [0x1A] with a := 0x12 })
      (fun t => t.p == flags 0 0 0 0 0 0 && t.cycles == some 2) = true := by
  decide

/-- UD2 (R421): 2 cycles, length 2. -/
theorem test_ud2 :
    sees (step (cpu [0x80, 0x44]))
      (fun t => t.p == flags 0 0 0 0 0 0 && t.cycles == some 2) = true := by
  decide

/-- UD3 (R421): reads $10, 3 cycles, no flag change. -/
theorem test_ud3 :
    sees (step (put 0x0010 0x99 (cpu [0x04, 0x10])))
      (fun t => t.p == flags 0 0 0 0 0 0 && t.cycles == some 3) = true := by
  decide

/-- UD4 (R421, R185): read class: 4 + 1 cycles. -/
theorem test_ud4 :
    sees (step { cpu [0x1C, 0xF0, 0x12] with x := 0x20 })
      (fun t => t.p == flags 0 0 0 0 0 0 && t.cycles == some 5) = true := by
  decide

/-- UD5 (R422): M = $02, A = $03, C from bit 7. -/
theorem test_ud5 :
    sees (step (put 0x0010 0x81 { cpu [0x07, 0x10] with a := 0x01 }))
      (fun t => t.a == 0x03 && t.p == flags 0 0 0 0 0 1 && Memory.read t.ram 0x0010 == 0x02 && t.cycles == some 5) = true := by
  decide

/-- UD6 (R422): RMW: 7 cycles, no penalty. -/
theorem test_ud6 :
    sees (step (put 0x1310 0x40 { cpu [0x1F, 0xF0, 0x12] with x := 0x20 }))
      (fun t => t.a == 0x80 && t.p == flags 1 0 0 0 0 0 && Memory.read t.ram 0x0310 == 0x80 && t.cycles == some 7) = true := by
  decide

/-- UD7 (R423). -/
theorem test_ud7 :
    sees (step (put 0x0010 0xC3 { cpu [0x27, 0x10] with a := 0x0F, p := flags 0 0 0 0 0 1 }))
      (fun t => t.a == 0x07 && t.p == flags 0 0 0 0 0 1 && Memory.read t.ram 0x0010 == 0x87 && t.cycles == some 5) = true := by
  decide

/-- UD8 (R424). -/
theorem test_ud8 :
    sees (step (put 0x0010 0x03 { cpu [0x47, 0x10] with a := 0xFF }))
      (fun t => t.a == 0xFE && t.p == flags 1 0 0 0 0 1 && Memory.read t.ram 0x0010 == 0x01 && t.cycles == some 5) = true := by
  decide

/-- UD9 (R425): ROR gives C = 1 into the addition: $7F + $01 + 1. -/
theorem test_ud9 :
    sees (step (put 0x0010 0x03 { cpu [0x67, 0x10] with a := 0x7F }))
      (fun t => t.a == 0x81 && t.p == flags 1 1 0 0 0 0 && Memory.read t.ram 0x0010 == 0x01 && t.cycles == some 5) = true := by
  decide

/-- UD10 (R426): zero-page,Y wraps to $05; flags unchanged. -/
theorem test_ud10 :
    sees (step { cpu [0x97, 0x10] with a := 0xF0, x := 0x3C, y := 0xF5, p := flags 1 0 0 0 0 0 })
      (fun t => t.p == flags 1 0 0 0 0 0 && Memory.read t.ram 0x0005 == 0x30 && t.cycles == some 4) = true := by
  decide

/-- UD11 (R427, R185): page crossed: 5 + 1 cycles. -/
theorem test_ud11 :
    sees (step (put 0x0410 0x80 (put 0x0041 0x03 (put 0x0040 0xF0 { cpu [0xB3, 0x40] with y := 0x20 }))))
      (fun t => t.a == 0x80 && t.x == 0x80 && t.p == flags 1 0 0 0 0 0 && t.cycles == some 6) = true := by
  decide

/-- UD12 (R428): A < M - 1: C clear, N from $10 - $1F. -/
theorem test_ud12 :
    sees (step (put 0x0010 0x20 { cpu [0xC7, 0x10] with a := 0x10 }))
      (fun t => t.p == flags 1 0 0 0 0 0 && Memory.read t.ram 0x0010 == 0x1F && t.cycles == some 5) = true := by
  decide

/-- UD13 (R428): equal after decrement: Z, C. -/
theorem test_ud13 :
    sees (step (put 0x0010 0x41 { cpu [0xC7, 0x10] with a := 0x40 }))
      (fun t => t.p == flags 0 0 0 0 1 1 && Memory.read t.ram 0x0010 == 0x40 && t.cycles == some 5) = true := by
  decide

/-- UD14 (R429): M wraps to 0; A - 0 = $20, C stays 1. -/
theorem test_ud14 :
    sees (step (put 0x0010 0xFF { cpu [0xE7, 0x10] with a := 0x20, p := flags 0 0 0 0 0 1 }))
      (fun t => t.p == flags 0 0 0 0 0 1 && Memory.read t.ram 0x0010 == 0x00 && t.cycles == some 5) = true := by
  decide

/-- UD15 (R430): N = 0 so C = 0. -/
theorem test_ud15 :
    sees (step { cpu [0x0B, 0x7F] with a := 0xFF, p := flags 0 0 0 0 0 1 })
      (fun t => t.a == 0x7F && t.p == flags 0 0 0 0 0 0 && t.cycles == some 2) = true := by
  decide

/-- UD16 (R431). -/
theorem test_ud16 :
    sees (step { cpu [0x4B, 0x03] with a := 0xFF })
      (fun t => t.a == 0x01 && t.p == flags 0 0 0 0 0 1 && t.cycles == some 2) = true := by
  decide

/-- UD17 (R432): result $FF: C = bit 6 = 1, V = bit 6 XOR bit 5 = 0. -/
theorem test_ud17 :
    sees (step { cpu [0x6B, 0xFF] with a := 0xFF, p := flags 0 0 0 0 0 1 })
      (fun t => t.p == flags 1 0 0 0 0 1 && t.cycles == some 2) = true := by
  decide

/-- UD18 (R432): result $20: C = 0, V = 1. -/
theorem test_ud18 :
    sees (step { cpu [0x6B, 0xFF] with a := 0x40 })
      (fun t => t.a == 0x20 && t.p == flags 0 1 0 0 0 0 && t.cycles == some 2) = true := by
  decide

/-- UD19 (R433): (A AND X) = immediate: X = 0, Z, C. -/
theorem test_ud19 :
    sees (step { cpu [0xCB, 0x0F] with a := 0xFF, x := 0x0F })
      (fun t => t.x == 0x00 && t.p == flags 0 0 0 0 1 1 && t.cycles == some 2) = true := by
  decide

/-- UD20 (R434): as SBC immediate. -/
theorem test_ud20 :
    sees (step { cpu [0xEB, 0x01] with p := flags 0 0 0 0 0 1 })
      (fun t => t.a == 0xFF && t.p == flags 1 0 0 0 0 0 && t.cycles == some 2) = true := by
  decide

/-- UD21 (R435). -/
theorem test_ud21 :
    sees (step (put 0x0305 0x3C { cpu [0xBB, 0x00, 0x03] with y := 0x05, sp := 0xF0 }))
      (fun t => t.a == 0x30 && t.x == 0x30 && t.sp == 0x30 && t.p == flags 0 0 0 0 0 0 && t.cycles == some 4) = true := by
  decide

/-- UD22 (R436, R500): halts: PC stays $0200, nothing else changes. -/
theorem test_ud22 :
    sees (step { cpu [0x02] with a := 0x12 })
      (fun t => t.halted && t.pc == 0x0200 && t.cycles == none) = true := by
  decide

/-- UD23 (R437, R500): unstable opcode: halts, operand not fetched. -/
theorem test_ud23 :
    sees (step { cpu [0x8B, 0xFF] with a := 0x12 })
      (fun t => t.halted && t.pc == 0x0200 && t.cycles == none) = true := by
  decide

/-- UD24 (R441, R500): halts. -/
theorem test_ud24 :
    sees (step { cpu [0x9C, 0x34, 0x12] with y := 0x12 })
      (fun t => t.halted && t.pc == 0x0200 && t.cycles == none) = true := by
  decide


/-! ### Interrupts, BRK, the halt, reset: vectors of 95_test_vectors.md, with a mapper-0 cartridge in place of its `Bus` -/

/-- One PRG bank of NOPs whose last six bytes are the vectors: NMI $A000, reset $8000, IRQ and BRK $B000 (R105, R562). -/
def rom : Cartridge where
  prgBanks := 1
  chrBanks := 1
  prg := List.replicate 0x3FFA 0xEA ++ [0x00, 0xA0, 0x00, 0x80, 0x00, 0xB0]
  chr := List.replicate 0x2000 0x00
  mirroring := .horizontal
  mapperId := 0
  trainer := false
  battery := false

/-- The state with a cartridge. -/
def withRom (c : Cartridge) (s : State) : State := { s with dev := { s.dev with cart := some c } }

/-- The start state of the interrupt vectors. -/
def cpuRom (bytes : List Byte) : State := withRom rom (cpu bytes)

/-- IN1 (R510, R513, R519, R520, R620): the entry pushes $02, $00, $21 and the handler's first instruction runs. -/
theorem test_in1 :
    sees (step { cpuRom [0xA9, 0x01] with nmiPending := true, p := flags 0 0 0 0 0 1 })
      (fun t => t.pc == 0xA001 && t.p == flags 0 0 0 1 0 1 && t.sp == 0xFA && Memory.read t.ram 0x01FD == 0x02 &&
        Memory.read t.ram 0x01FC == 0x00 && Memory.read t.ram 0x01FB == 0x21 && t.cycles == some 9) = true := by
  decide +kernel

/-- IN2 (R511, R514): a masked IRQ is not entered and stays pending. -/
theorem test_in2 :
    sees (step { cpuRom [0xA9, 0x01] with irqPending := true, p := flags 0 0 0 1 0 0 })
      (fun t => t.pc == 0x0202 && t.irqPending && t.cycles == some 2) = true := by
  decide

/-- IN3 (R511, R521, R620): IRQ entry through $FFFE. -/
theorem test_in3 :
    sees (step { cpuRom [0xA9, 0x01] with irqPending := true })
      (fun t => t.pc == 0xB001 && !t.irqPending && Memory.read t.ram 0x01FB == 0x20 && t.cycles == some 9) = true := by
  decide +kernel

/-- IN4 (R517): with both pending NMI is entered and the IRQ waits. -/
theorem test_in4 :
    let t := (poll { cpuRom [0xA9, 0x01] with irqPending := true, nmiPending := true }).2
    t.irqPending = true ∧ t.nmiPending = false ∧ t.p = flags 0 0 0 1 0 0 := by
  decide

/-- IN7 (R500, R582): a halted CPU has no step, and a request is latched. -/
theorem test_in7 :
    step (requestNmi { cpu [0x02] with halted := true }) = .fault .noStep ∧
      (requestNmi { cpu [0x02] with halted := true }).nmiPending = true := ⟨rfl, rfl⟩

/-- IN8 (R409, R523): BRK with SP = $F0 pushes $02, $02, $30 and goes through $FFFE. -/
theorem test_in8 :
    sees (step { cpuRom [0x00] with sp := 0xF0 })
      (fun t => t.pc == 0xB000 && t.sp == 0xED && Memory.read t.ram 0x01F0 == 0x02 && Memory.read t.ram 0x01EF == 0x02 &&
        Memory.read t.ram 0x01EE == 0x30 && t.cycles == some 7) = true := by
  decide +kernel

/-- RS1 (R600, R70): reset from a halted state with both requests pending. -/
theorem test_rs1 :
    let t := cpuReset Config.resetRegs { cpuRom [0x02] with halted := true, nmiPending := true, irqPending := true }
    t.pc = 0x8000 ∧ t.p.i = true ∧ t.nmiPending = false ∧ t.irqPending = false ∧ t.halted = false ∧ t.cycles = none ∧
      t.running = true := by
  decide +kernel

/-- TM5 (R385, R620): BEQ taken at $02FE with offset 0 stays in the page of the next instruction: 3 cycles. -/
theorem test_tm5 :
    sees (step { cpuAt 0x02FE [0xF0, 0x00] with p := flags 0 0 0 0 1 0 }) (fun t => t.pc == 0x0300 && t.cycles == some 3) = true := by
  decide

/-- TM3 (R185): a store through ($40),Y takes 6 cycles with a page crossing. -/
theorem test_tm3 :
    sees (step (put 0x0040 0xF0 (put 0x0041 0x03 { cpu [0x91, 0x40] with a := 0x5A, y := 0x20 })))
      (fun t => Memory.read t.ram 0x0410 == 0x5A && t.cycles == some 6) = true := by
  decide

/-! ### The session: scenarios of 95_test_vectors.md -/

/-- The header of X2: 2 PRG banks, 1 CHR bank, mapper 0, horizontal mirroring. -/
def headerX2 : List Byte := [0x4E, 0x45, 0x53, 0x1A, 0x02, 0x01, 0, 0, 0, 0, 0, 0, 0, 0, 0, 0]

/-- X2 (R566 to R569): with exactly the bytes the header declares, the image parses. -/
theorem parse_x2 (body : List Byte) (h : body.length = 40960) : ∃ c, parseRom (headerX2 ++ body) = .ok c := by
  simp [h, parseRom, headerX2, romMagic, headerLength, requiredLength, prgBankSize, chrBankSize, trainerSize,
    mapperIdOf, inMapperSet]

/-- X2: it is valid. -/
theorem test_x2 : romIsValid (headerX2 ++ List.replicate 40960 0x00) = true := by
  obtain ⟨c, h⟩ := parse_x2 (List.replicate 40960 0x00) List.length_replicate
  rw [romIsValid, h]

/-- X3 (R567): the same header with 30000 bytes in all is no valid image, and the load changes nothing. -/
theorem test_x3 (r : ResetRegs) (init : MemInit) (body : List Byte) (h : body.length = 29984) :
    loadRom r init (headerX2 ++ body) State.reset = .fault .romTruncated := by
  simp [h, loadRom, State.reset, State.resetIn, parseRom, headerX2, romMagic, headerLength, requiredLength, prgBankSize, chrBankSize,
    trainerSize]

/-- X4 (R67, R571): the CPU block of the scenario's state. -/
theorem test_x4 :
    cpuSerialize
      { cpu [] with a := 0x12, x := 0x34, y := 0x56, sp := 0xF0, pc := 0x8000, p := flags 1 0 0 0 0 1 } =
        [0x12, 0x34, 0x56, 0xF0, 0x00, 0x80, 0xB1, 0x00] := by
  decide

/-- R568: the mapper ID is the high nibbles of flags 7 and flags 6; R566: bits 0 and 3 of flags 6 are the mirroring. -/
theorem test_rom_flags :
    mapperIdOf 0x1F 0x4F = 0x41 ∧ mirroringOf 0x00 = .horizontal ∧ mirroringOf 0x01 = .vertical ∧
      mirroringOf 0x08 = .fourScreen := by
  decide

/-- R127: horizontal shares $2000 with $2400 and $2800 with $2C00; vertical shares $2000 with $2800. -/
theorem test_mirroring :
    vramIndex .horizontal 0x2405 = vramIndex .horizontal 0x2005 ∧ vramIndex .vertical 0x2805 = vramIndex .vertical 0x2005 ∧
      vramIndex .horizontal 0x2805 ≠ vramIndex .horizontal 0x2005 := by
  decide

/-- 70_reset_and_hazards.md R630: a run ends at the first boundary at the end address, here after INX at the JMP to itself, and the
steps left to it change nothing; at a start state that stands there; after a halt; and not before it comes to one. -/
theorem test_end_of_run :
    (runSteps 0x0201 2 (cpu [0xE8, 0x4C, 0x01, 0x02])).map (fun s => (s.pc, s.x)) = some (0x0201, 1) ∧
      (runSteps 0x0200 2 (cpu [0xE8])).map (fun s => (s.pc, s.x)) = some (0x0200, 0) ∧
      (runSteps 0x0300 2 (cpu [0x02])).map (fun s => (s.pc, s.halted)) = some (0x0200, true) ∧
      runSteps 0x0300 1 (cpu [0xE8]) = none := by
  decide

/-! ### Witnesses: states and operands that meet the statements' hypotheses -/

/-- EncodingADecodedInstructionGivesTheBytesBack. -/
theorem witness_decoded : decode [0xAD, 0x34, 0x12, 0xEA] = .ok (.ldaAbs 0x1234, [0xEA]) := by decide

/-- OpcodesHaveTheirMnemonicAndMode: a row with one opcode byte for a mode and a row with several. -/
theorem witness_opcodeMap :
    (.las, [(Mode.absy, [0xBB])]) ∈ opcodeMap ∧ (.anc, [(Mode.imm, [0x0B, 0x2B])]) ∈ opcodeMap := by decide

/-- EveryOpcodeByteDecodes, OperandBytesFollowTheModeLayout, HaltingOpcodesChangeOnlyHalted: both kinds of opcode byte. -/
theorem witness_haltingOpcodes : 0x02 ∈ haltingOpcodes ∧ 0x9E ∈ haltingOpcodes ∧ 0xEA ∉ haltingOpcodes := by decide

/-- AssemblerLinesNameEveryInstruction: an instruction with a line; the two ends of a branch's range, and one byte past them. -/
theorem witness_assembler :
    (Instr.bne 0x80).halts = false ∧ branchOffset 0x0280 0x0202 = some 0x80 ∧ branchOffset 0x0280 0x0301 = some 0x7F ∧
      branchOffset 0x0280 0x0201 = none ∧ branchOffset 0x0280 0x0302 = none := by decide

/-- MemoryInterfaceSplitsRamFromBus: the addresses where RAM and Bus meet. -/
theorem witness_ramAndBus : (0x1FFF : Word).toNat < 0x2000 ∧ 0x2000 ≤ (0x2000 : Word).toNat := by decide

/-- RamMirrorsNameOneByte: the last byte, and another byte at the top of the RAM range. -/
theorem witness_ramMirrors :
    (0x07FF : Word).toNat < 0x800 ∧ (0x1FFE : Word).toNat < 0x2000 ∧ (0x1FFE : Word).toNat % 0x800 ≠ (0x07FF : Word).toNat := by
  decide

/-- EqualMemoriesAreEqualData: a memory in canonical form with its first and last byte listed. -/
theorem witness_memoryWf : Memory.wf 0x800 [(0, 0x01), (0x7FF, 0xFF)] = true := by decide

/-- The cartridge of the tests holds its banks. -/
theorem rom_wf : Cartridge.wf rom = true := by simp [-List.reduceReplicate, Cartridge.wf, rom, prgBankSize, chrBankSize]

/-- MapperZeroShowsFixedBanks, one PRG bank and one CHR bank: the first and the last address. -/
theorem witness_mapperZero_one :
    (cpuRom []).dev.cart = some rom ∧ rom.mapperId = 0 ∧ Cartridge.wf rom = true ∧ 0x8000 ≤ (0x8000 : Word).toNat ∧
      0x8000 ≤ (0xFFFF : Word).toNat ∧ rom.prgBanks = 1 ∧ rom.chrBanks = 1 :=
  ⟨rfl, rfl, rom_wf, by decide, by decide, rfl, rfl⟩

/-- Two PRG banks. -/
def rom2 : Cartridge := { rom with prgBanks := 2, prg := List.replicate 0x8000 0xEA }

/-- MapperZeroShowsFixedBanks, two PRG banks: the addresses where the windows meet. -/
theorem witness_mapperZero_two :
    (withRom rom2 (cpu [])).dev.cart = some rom2 ∧ rom2.mapperId = 0 ∧ Cartridge.wf rom2 = true ∧ rom2.prgBanks = 2 ∧
      0x8000 ≤ (0xBFFF : Word).toNat ∧ (0xBFFF : Word).toNat < 0xC000 ∧ 0xC000 ≤ (0xC000 : Word).toNat :=
  ⟨rfl, rfl, by simp [-List.reduceReplicate, Cartridge.wf, rom2, rom, prgBankSize, chrBankSize], rfl, by decide, by decide, by decide⟩

/-- BankSelectChangesOneWindow: whatever the Bus answers, one of two windows is not the addressed one; a cartridge with bank-selects
and two windows; no cartridge. -/
theorem witness_bankSelect (sel : Option BankSelect) (space : BankSpace) :
    (addressed sel space 0 = false ∨ addressed sel space 1 = false) ∧
      { rom with mapperId := 1 }.mapperId ≠ 0 ∧ 1 < [0, 1].length ∧ (cpu []).dev.cart = none := by
  refine ⟨?_, by decide, by decide, rfl⟩
  rcases sel with _ | ⟨sp, w, b⟩
  · exact .inl rfl
  · by_cases h : w = 0
    · subst h
      exact .inr (by simp [addressed])
    · exact .inl (by simp [addressed, h])

/-- MirroringModesShareTables: the last offset, and two different tables. -/
theorem witness_mirroring : 0x3FF < 0x400 ∧ 3 < 4 ∧ 0 < 4 ∧ 3 ≠ 0 := by decide

/-- StackGrowsDownInPageOne: SP at both ends of the page. -/
theorem witness_stackEnds :
    { cpu [] with sp := 0x00 }.sp = 0x00 ∧ { cpu [] with sp := 0xFF }.sp = 0xFF ∧ 0x0101 ≠ 0x100 + (0x00 : Byte).toNat := by
  decide

/-- DeviceAccessesHappenOnceInOrder: no cartridge; an instruction of each class, its effective address in RAM, at the first device
address and at the last one; instructions without an operand in memory; a pointer on either side. -/
theorem witness_deviceAccess :
    let s := { cpu [] with x := 0xFF }
    s.dev.cart = none ∧ (Instr.ldaAbsx 0x1F01).operand = .memory (.absx 0x1F01) ∧ (MemOperand.absx 0x1F01).mode ≠ .ind ∧
      (effAddr (.absx 0x1F01) s).addr.toNat = 0x2000 ∧ (effAddr (.absx 0x1F00) s).addr.toNat = 0x1FFF ∧
      (effAddr (.abs 0xFFFF) s).addr.toNat = 0xFFFF ∧ (Instr.ldaAbsx 0x1F01).mnemonic ∈ readers ∧
      (Instr.staAbs 0xFFFF).mnemonic ∈ writers ∧ (Instr.incAbs 0xFFFF).mnemonic ∈ modifiers ∧
      (Instr.jmpAbs 0xFFFF).mnemonic = .jmp ∧ Instr.pha.mnemonic ≠ .brk ∧ (0x1FFF : Word).toNat < 0x2000 ∧
      0x2000 ≤ (0x2000 : Word).toNat := by decide

/-- DeviceAccessesHappenOnceInOrder: no operand in memory. -/
theorem witness_noOperand : ∀ m, Instr.pha.operand ≠ .memory m := nofun

/-- LoadsMoveTheOperandIntoARegister, StoresWriteTheRegisterAtTheAddress: the first encoding of each instruction. -/
theorem witness_loadStore :
    ⟨0xA9, .imm, 2, 2, false⟩ ∈ ldaEncodings ∧ ⟨0xB6, .zpy, 2, 4, false⟩ ∈ ldxEncodings ∧
      ⟨0xBC, .absx, 3, 4, true⟩ ∈ ldyEncodings ∧ ⟨0x91, .indy, 2, 6, false⟩ ∈ staEncodings ∧
      ⟨0x96, .zpy, 2, 4, false⟩ ∈ stxEncodings ∧ ⟨0x8C, .abs, 3, 4, false⟩ ∈ styEncodings ∧
      ⟨0x97, .zpy, 2, 4, false⟩ ∈ saxEncodings := by decide

/-- AdcAndSbcAreOneBinaryAdder, AdcIsUnsignedAndSignedAddition, SbcIsSubtractionWithBorrow, ComparesSetCarryZeroAndNegative:
an encoding of each instruction; and an ADC with V = 0 after it. -/
theorem witness_arithmetic :
    ⟨0x71, .indy, 2, 5, true⟩ ∈ adcEncodings ∧ ⟨0xE9, .imm, 2, 2, false⟩ ∈ sbcEncodings ∧
      ⟨0xEB, .imm, 2, 2, false⟩ ∈ sbcUndocEncodings ∧ ⟨0xC9, .imm, 2, 2, false⟩ ∈ cmpEncodings ∧
      ⟨0xE4, .zp, 2, 3, false⟩ ∈ cpxEncodings ∧ ⟨0xCC, .abs, 3, 4, false⟩ ∈ cpyEncodings ∧
      sees (exec (.adcImm 0x01) { cpu [] with a := 0x7E }) (fun t => !t.p.v) = true := by decide

/-- IncrementsAndDecrementsWrap, LogicalInstructionsCombineBits, ShiftsMoveOneBitThroughCarry: an encoding of each; a shift in
both its kinds of mode. -/
theorem witness_modify :
    ⟨0xFE, .absx, 3, 7, false⟩ ∈ incEncodings ∧ ⟨0xC6, .zp, 2, 5, false⟩ ∈ decEncodings ∧
      ⟨0x21, .indx, 2, 6, false⟩ ∈ andEncodings ∧ ⟨0x09, .imm, 2, 2, false⟩ ∈ oraEncodings ∧
      ⟨0x59, .absy, 3, 4, true⟩ ∈ eorEncodings ∧ ⟨0x2C, .abs, 3, 4, false⟩ ∈ bitEncodings ∧
      ⟨0x0A, .acc, 1, 2, false⟩ ∈ aslEncodings ∧ ⟨0x1E, .absx, 3, 7, false⟩ ∈ aslEncodings ∧
      ⟨0x4A, .acc, 1, 2, false⟩ ∈ lsrEncodings ∧ ⟨0x36, .zpx, 2, 6, false⟩ ∈ rolEncodings ∧
      ⟨0x6E, .abs, 3, 6, false⟩ ∈ rorEncodings := by decide

/-- BranchesTestOneFlag: a branch taken and the same branch not taken. -/
theorem witness_branches :
    sees (exec (.bne 0x05) (cpu [])) (fun t => t.pc == 0x0207) = true ∧
      sees (exec (.bne 0x05) { cpu [] with p := flags 0 0 0 0 1 0 }) (fun t => t.pc == 0x0202) = true := by decide

/-- UndocumentedReadsHaveTheirEffects, CombinedInstructionsModifyThenCombine: an encoding of each instruction. -/
theorem witness_undocumented :
    ⟨0x1A, .imp, 1, 2, false⟩ ∈ nopUndocEncodings ∧ ⟨0xFC, .absx, 3, 4, true⟩ ∈ nopUndocEncodings ∧
      ⟨0xB3, .indy, 2, 5, true⟩ ∈ laxEncodings ∧ ⟨0x2B, .imm, 2, 2, false⟩ ∈ ancEncodings ∧
      ⟨0x4B, .imm, 2, 2, false⟩ ∈ alrEncodings ∧ ⟨0x6B, .imm, 2, 2, false⟩ ∈ arrEncodings ∧
      ⟨0xCB, .imm, 2, 2, false⟩ ∈ axsEncodings ∧ ⟨0xBB, .absy, 3, 4, true⟩ ∈ lasEncodings ∧
      ⟨0x03, .indx, 2, 8, false⟩ ∈ sloEncodings ∧ ⟨0x3B, .absy, 3, 7, false⟩ ∈ rlaEncodings ∧
      ⟨0x5F, .absx, 3, 7, false⟩ ∈ sreEncodings ∧ ⟨0x73, .indy, 2, 8, false⟩ ∈ rraEncodings ∧
      ⟨0xC7, .zp, 2, 5, false⟩ ∈ dcpEncodings ∧ ⟨0xEF, .abs, 3, 6, false⟩ ∈ iscEncodings := by decide

/-- RegistersHaveOnlyTheirWriters: an instruction outside every column; a shift in memory, which is outside A's. -/
theorem witness_registerWriters :
    Mnemonic.sta ∉ writersOfA ∧ Mnemonic.sta ∉ shifts ∧ Mnemonic.sta ∉ writersOfX ∧ Mnemonic.sta ∉ writersOfY ∧
      Mnemonic.sta ∉ writersOfSp ∧ (Instr.aslZp 0x10).mnemonic ∉ writersOfA ∧
      (Instr.aslZp 0x10).operand ≠ .accumulator := by decide

/-- FlagsHaveOnlyTheirWriters: an instruction outside every column. -/
theorem witness_flagWriters :
    Mnemonic.sta ∉ writersOfNZ ∧ Mnemonic.sta ∉ writersOfV ∧ Mnemonic.sta ∉ writersOfD ∧ Mnemonic.sta ∉ writersOfI ∧
      Mnemonic.sta ∉ writersOfC := by decide

/-- InstructionsThatStoreNothingKeepMemory: a load, whose reads change no device; and a pull, which has no operand in memory. -/
theorem witness_storesNothing :
    (∀ m, ¬ storesAt (.ldaZp 0x10) m) ∧ pushes (.ldaZp 0x10) = 0 ∧
      sees (exec (.ldaZp 0x10) (cpu [])) (fun t => t.dev.events == (cpu []).dev.events) = true ∧
      (∀ m, ¬ storesAt .pla m) ∧ pushes .pla = 0 ∧ ∀ m, Instr.pla.operand ≠ .memory m :=
  ⟨fun _ h => absurd h.2 (by decide), by decide, by decide, fun _ h => absurd h.2 (by decide), by decide, nofun⟩

/-- StoresChangeOneByte: a store at $0010, a RAM address that names another byte, one above RAM, and a history that stays. -/
theorem witness_storesOne :
    storesAt (.staZp 0x10) (.zp 0x10) ∧ (effAddr (.zp 0x10) (advancePc 2 (cpu []))).addr = 0x0010 ∧
      (0x1FFF : Word).toNat < 0x2000 ∧ ramByte 0x1FFF ≠ ramByte 0x0010 ∧ ramByte 0x2000 = none ∧
      sees (exec (.staZp 0x10) (cpu [])) (fun t => t.dev.events == (cpu []).dev.events) = true :=
  ⟨⟨rfl, by decide⟩, by decide, by decide, by decide, by decide, by decide⟩

/-- PushesChangeOnlyTheirStackBytes: each of the four instructions, and the byte below the three that BRK writes. -/
theorem witness_pushes :
    pushes .pha = 1 ∧ pushes .php = 1 ∧ pushes (.jsr 0x1234) = 2 ∧ pushes .brk = 3 ∧ (0x01FA : Word).toNat < 0x2000 ∧
      ∀ k < 3, ramByte 0x01FA ≠ some (0x100 + ((cpu []).sp - BitVec.ofNat 8 k).toNat) := by decide

/-- InstructionsLeaveTheRestOfTheMachine: an IRQ pending, and accesses that change no device. -/
theorem witness_rest :
    { cpu [] with irqPending := true }.irqPending = true ∧
      sees (exec (.incZp 0x10) (cpu [])) (fun t => t.dev.events == (cpu []).dev.events) = true := by decide

/-- PcAdvancesByTheLength: an instruction that goes on, and one that halts. -/
theorem witness_pcAdvances :
    (Instr.ldaAbs 0x1234).mnemonic ∉ transfers ∧ (Instr.ldaAbs 0x1234).halts = false ∧ Instr.shy.mnemonic ∉ transfers ∧
      Instr.shy.halts = true := by decide

/-- StepsTakeTwoToFifteenCycles, SessionStepsAdvanceThreeDotsPerCycle, StepKeepsTheMachineInForm: steps that return a count, with
and without an interrupt entry, and one that halts; on NTSC. -/
theorem witness_steps :
    sees (step (cpu [0xEA])) (fun t => t.cycles == some 2) = true ∧ quiet (cpu [0xEA]) ∧
      ¬ quiet { cpu [0xEA] with nmiPending := true } ∧ sees (step (cpu [0x02])) (fun t => t.cycles == none) = true ∧
      (cpu [0xEA]).session.region = .ntsc :=
  ⟨by decide, ⟨rfl, .inl rfl⟩, (fun h => absurd h.1 (by decide)), by decide, rfl⟩

/-- StepRunsTheDecodedInstruction: an instruction of three bytes in RAM. -/
theorem witness_stepRuns :
    let s := cpu [0xAD, 0x34, 0x12]
    s.running = true ∧ s.halted = false ∧ quiet s ∧
      (∀ k < 3, (memRead (s.pc + BitVec.ofNat 16 k) s).2 = s) ∧ (Instr.ldaAbs 0x1234).length = 3 ∧
      decode [peek s.pc s, peek (s.pc + 1) s, peek (s.pc + 2) s] = .ok (.ldaAbs 0x1234, []) := by
  refine ⟨rfl, rfl, ⟨rfl, .inl rfl⟩, fun k hk => ?_, rfl, by decide⟩
  match k, hk with
  | 0, _ | 1, _ | 2, _ => rfl

/-- InterruptEntryPushesAndVectors: an NMI request; an IRQ request with I = 0; the same with I = 1; a byte below
the three pushed. -/
theorem witness_entries :
    { cpu [] with nmiPending := true }.nmiPending = true ∧
      ({ cpu [] with irqPending := true }.nmiPending = false ∧ { cpu [] with irqPending := true }.irqPending = true ∧
        { cpu [] with irqPending := true }.p.i = false) ∧
      quiet { cpu [] with irqPending := true, p := flags 0 0 0 1 0 0 } ∧
      ∀ j < 3, 0x01FA ≠ 0x100 + ((cpu []).sp - BitVec.ofNat 8 j).toNat :=
  ⟨rfl, ⟨rfl, rfl, rfl⟩, ⟨rfl, .inr rfl⟩, by decide⟩

/-- HaltLastsUntilReset: a halted CPU, and calls that leave it so, without a teardown, and have a next state. -/
theorem witness_haltLasts :
    let s := { cpu [0x02] with halted := true }
    s.halted = true ∧ HostCall.destroy ∉ [HostCall.requestNmi, .beginExecution, .setMirroring .vertical] ∧ (∀ c ∈ [HostCall.requestNmi, .beginExecution, .setMirroring .vertical], rewritesCpu c = false) ∧
      ∃ t, runCalls [.requestNmi, .beginExecution, .setMirroring .vertical] s = .next t := by
  refine ⟨rfl, by simp, ?_, _, rfl⟩
  decide

/-- OnlyTheStepWritesRegisters: a call that has a next state. -/
theorem witness_hostWrites :
    rewritesCpu .stopEmulation = false ∧ HostCall.stopEmulation ≠ .stepOneInstruction ∧
      HostCall.stopEmulation ≠ .sessionStep ∧ HostCall.stopEmulation ≠ .destroy ∧
      ∃ t, hostCall .stopEmulation (cpu []) = .next t :=
  ⟨rfl, nofun, nofun, nofun, _, rfl⟩

/-- The devices of the tests are well formed, in either region. -/
theorem devices_wf (r : Region) : Devices.wf r Devices.initial = true := by
  simp [Devices.wf, Devices.initial, Memory.wf, Memory.rising, goodPpu, inFrame]

/-- StepKeepsTheMachineInForm, HostCallsKeepTheMachineInForm, SavedStatesLoadBack, SessionStepsAdvanceThreeDotsPerCycle: a state in form,
on NTSC, with a step and a host call; a session that does not run, with the same (no) ROM and region. -/
theorem witness_inForm :
    State.Inv (cpu [0xEA]) ∧ (cpu [0xEA]).session.region = .ntsc ∧ (cpu [0xEA]).session.phase ≠ .destroyed ∧
      (∃ t, step (cpu [0xEA]) = .next t) ∧ (∃ t, hostCall .sessionStep (cpu [0xEA]) = .next t) ∧
      { cpu [] with running := false }.running = false ∧
      { cpu [] with running := false }.session = (cpu [0xEA]).session ∧
      { cpu [] with running := false }.dev.cart = (cpu [0xEA]).dev.cart :=
  ⟨⟨by decide, devices_wf _⟩, rfl, nofun, ⟨_, rfl⟩, ⟨_, rfl⟩, rfl, rfl, rfl⟩

/-- HostCallsKeepTheMachineInForm: a teardown and a construction after it. -/
theorem witness_construct :
    ∃ t u, hostCall .destroy (cpu []) = .next t ∧ hostCall (.construct .pal Config.resetRegs ⟨[], [], []⟩) t = .next u :=
  ⟨_, _, rfl, rfl⟩

/-- SavedStatesLoadBack: another version byte; a buffer cut short; another ROM. -/
theorem witness_badSaves :
    (2 : Byte) ≠ 1 ∧ 0 < (stateSave (cpu [])).items.length ∧ { cpu [] with running := false }.dev.cart ≠ (cpuRom []).dev.cart :=
  ⟨by decide, by rw [stateSave, List.length_append]; exact Nat.lt_add_left _ (by decide), nofun⟩

/-- HostCallsRequestStartStopAndDestroy: a session in each of two phases, and a call that constructs none. -/
theorem witness_hostCalls :
    (cpu []).session.phase ≠ .destroyed ∧ (cpu []).session.phase = .unloaded ∧
      { (cpu []).session with phase := .running }.phase ≠ .unloaded ∧ constructs .sessionStep = false := by decide

/-- R571, R573: the CPU block of another ROM is refused, and one of the same ROM is loaded. -/
theorem test_deserialize :
    cpuLoad [1, 2, 3, 4, 5, 6, 7, 0] (some rom) { cpu [] with running := false } = .refused .foreignState ∧
      sees (cpuLoad [1, 2, 3, 4, 5, 6, 7, 0] none { cpu [] with running := false }) (fun t => t.y == 3 && t.pc == 0x0605) = true :=
  ⟨rfl, by decide⟩

/-- R563: a CHR bank-select leaves the PRG table. -/
theorem test_select_bank :
    selectBank .chr [4, 5] (some ⟨.chr, 1, 7⟩) = [4, 7] ∧ selectBank .prg [4, 5] (some ⟨.chr, 1, 7⟩) = [4, 5] := by decide

/-- R623: 5 NTSC cycles are 15 dots; at 16/5 dots per cycle, 2 cycles and then 3 are 6 and then 10, the fraction carried on. -/
theorem test_dots :
    ticksFor (dotsPerCpuCycle .ntsc) 7 5 = 15 ∧ ticksFor ⟨16, 4⟩ 0 2 = 6 ∧ ticksFor ⟨16, 4⟩ 2 3 = 10 := by decide

/-- DecimalFlagReachesOnlyPushes: an instruction that writes D, and one that does not. -/
theorem witness_decimal :
    Instr.sed.mnemonic ≠ .php ∧ Instr.sed.mnemonic ≠ .brk ∧ Instr.sed.mnemonic ∈ writersOfD ∧
      (Instr.adcImm 0x01).mnemonic ≠ .php ∧ (Instr.adcImm 0x01).mnemonic ≠ .brk ∧
      (Instr.adcImm 0x01).mnemonic ∉ writersOfD := by decide

/-- RomValidityIsMagicCountsAndLength: an image that parses. -/
theorem witness_parseRom : ∃ c, parseRom (headerX2 ++ List.replicate 40960 0x00) = .ok c :=
  parse_x2 _ List.length_replicate

/-- A line's last dot is not within it. -/
theorem withinLine_last (r : Region) (ph : PpuPhase) (sl : Nat) : withinLine r ⟨ph, sl, lastDot r ⟨ph, sl, 0⟩⟩ = false := by
  have h : lastDot r ⟨ph, sl, lastDot r ⟨ph, sl, 0⟩⟩ = lastDot r ⟨ph, sl, 0⟩ := rfl
  simp [withinLine, h]

/-- PpuSignalsVBlankAndLimitsSprites: devices whose next dot begins VerticalBlank, with the NMI enabled; two rows. -/
theorem witness_vblank :
    let t : PpuTiming := ⟨.postRender, lastPostRenderLine .ntsc, lastDot .ntsc ⟨.postRender, lastPostRenderLine .ntsc, 0⟩⟩
    let d :=
      { Devices.initial with
        ppu :=
          { Devices.initial.ppu with
            timing := t
            latches := { Devices.initial.ppu.latches with nmiEnable := true } } }
    d.ppu.timing.phase = .postRender ∧ (stepDot .ntsc d).1.ppu.timing.phase = .verticalBlank ∧
      d.ppu.latches.nmiEnable = true ∧ (0 : Fin 240) ≠ 239 := by
  have h := withinLine_last .ntsc .postRender (lastPostRenderLine .ntsc)
  refine ⟨rfl, ?_, rfl, by decide⟩
  simp [stepDot, h, nextDot, nextLine, scanlineEvent, endOfLine, Devices.initial]


end Sys2Proof.Tests
end

section
/-! PROOFS. The decoder over the whole opcode map: the opcode byte, whether it halts, and the length (00_scope.md R19,
30_encoding.md R226, R228). -/

namespace Sys2Proof

open Sys2Proof.Machine Sys2Proof.Claims

/-- The opcode map in order (R190): its entries' opcode bytes are $00 to $FF, and those of R226 are the ones that halt. -/
theorem decodeTable_opcode_halts :
    decodeTable.map (fun f => ((f 0 0).opcode, (f 0 0).halts)) = allOpcodes.map (fun op => (op, decide (op ∈ haltingOpcodes))) := by
  decide +kernel

/-- What a decoded instruction's row says of its opcode byte, whatever the operand bytes are. -/
theorem decodeOp_opcode_halts (op b1 b2 : Byte) :
    ((decodeOp op b1 b2).opcode, (decodeOp op b1 b2).halts) = (op, decide (op ∈ haltingOpcodes)) := by
  have hentry := List.getElem_of_eq decodeTable_opcode_halts (i := op.toNat) (by simp [decodeTable_length, op.isLt])
  have hop : allOpcodes[op.toNat]'(by simp [allOpcodes, op.isLt]) = op := by simp [allOpcodes]
  rw [List.getElem_map, List.getElem_map, hop] at hentry
  rw [Instr.opcode, Instr.halts, decodeOp_row]
  exact hentry

@[simp] theorem decodeOp_opcode (op b1 b2 : Byte) : (decodeOp op b1 b2).opcode = op :=
  congrArg Prod.fst (decodeOp_opcode_halts op b1 b2)

@[simp] theorem decodeOp_halts (op b1 b2 : Byte) : (decodeOp op b1 b2).halts = decide (op ∈ haltingOpcodes) :=
  congrArg Prod.snd (decodeOp_opcode_halts op b1 b2)

/-- A halting opcode is one byte long (R226), any other as long as its mode says (R162). -/
theorem decodeOp_length (op b1 b2 : Byte) :
    (decodeOp op b1 b2).length = if op ∈ haltingOpcodes then 1 else (decodeOp op b1 b2).row.mode.length := by
  have hhalts : (decodeOp op 0 0).row.halts = decide (op ∈ haltingOpcodes) := decodeOp_halts op 0 0
  rw [Instr.length, decodeOp_operand, decodeOp_row op b1 b2, hhalts]
  by_cases h : op ∈ haltingOpcodes
  · simp [h, Operand.mode, Mode.length]
  · simp [h, Mode.operand_mode]

/-- The opcode byte alone fixes the length (R228). -/
theorem fetchLength_eq_length (op b1 b2 : Byte) : fetchLength op = (decodeOp op b1 b2).length := by
  rw [fetchLength, decodeOp_length, decodeOp_length, decodeOp_row op b1 b2]

/-- Settles O4, by one pass over the opcode map. -/
theorem everyOpcodeByteDecodes : Obligations.EveryOpcodeByteDecodes := by
  intro op b1 b2
  refine ⟨decodeOp_opcode op b1 b2, ?_, fetchLength_eq_length op b1 b2, ?_⟩
  · rw [decodeOp_halts, decide_eq_true_iff]
  · rw [fetchLength_eq_length op b1 b2, decodeOp_length]

end Sys2Proof
end

section
/-! PROOFS. The host's calls that request, begin and end, start and stop, tear down and construct (60_exceptions.md R570 to R573). -/

namespace Sys2Proof.Machine

open Sys2Proof.Claims

/-- A session that is not destroyed makes every call but a construction (R570). -/
theorem hostCall_of_not_destroyed {c : HostCall} {s : State} (hs : s.session.phase ≠ .destroyed) (hc : constructs c = false) :
    hostCall c s = makeCall c s := by
  have hallowed : callAllowed s.session.phase c = true := by
    cases c
    case construct => exact absurd hc (by simp [constructs])
    all_goals simp [callAllowed, hs]
  rw [hostCall, if_pos hallowed]

/-- A destroyed session makes a construction (R570, 20_memory.md R113). -/
theorem hostCall_construct {s : State} (hs : s.session.phase = .destroyed) (region : Region) (r : ResetRegs) (init : MemInit) :
    hostCall (.construct region r init) s = .next (constructSession region r init s) := by
  have hallowed : callAllowed s.session.phase (.construct region r init) = true := by simp [callAllowed, hs]
  rw [hostCall, if_pos hallowed, makeCall]

/-- A CPU that is not running has no step (10_state.md R62). -/
theorem step_of_not_running {s : State} (h : s.running = false) : step s = .fault .noStep := by
  simp [step, isRunning, h]

/-- Once a ROM is loaded, `startEmulation` goes to Running (R570). -/
theorem startEmulation_of_loaded {s : State} (hd : s.session.phase ≠ .destroyed) (hu : s.session.phase ≠ .unloaded) :
    startEmulation s = .next { s with running := true, session := { s.session with phase := .running } } := by
  unfold startEmulation
  split
  case h_1 | h_2 | h_3 => rfl
  case h_4 h => exact absurd h hu
  case h_5 h => exact absurd h hd

theorem startEmulation_of_unloaded {s : State} (h : s.session.phase = .unloaded) : startEmulation s = .refused .outOfPhase := by
  simp [startEmulation, h]

theorem phaseStopped_eq (phase : SessionPhase) : phaseStopped phase = if phase = .running then .paused else phase := by
  cases phase <;> rfl

@[simp] theorem stopEmulation_phase (s : State) : (stopEmulation s).session.phase = phaseStopped s.session.phase := rfl

/-- Stopping destroys no session (R572: without discarding state). -/
theorem stopEmulation_not_destroyed {s : State} (h : s.session.phase ≠ .destroyed) :
    (stopEmulation s).session.phase ≠ .destroyed := by
  rw [stopEmulation_phase, phaseStopped_eq]
  split
  · decide
  · exact h

@[simp] theorem destroySession_vram (s : State) : (destroySession s).dev.vram = [] := rfl
@[simp] theorem destroySession_oam (s : State) : (destroySession s).dev.oam = [] := rfl

/-- After the teardown every call but a construction is refused (20_memory.md R113). -/
theorem hostCall_destroySession {c : HostCall} (hc : constructs c = false) (s : State) :
    hostCall c (destroySession s) = .refused .outOfPhase := by
  refine hostCall_destroyed (destroySession_phase s) fun region r init h => ?_
  rw [h] at hc
  exact absurd hc (by simp [constructs])

/-- What a construction sets (R611, 10_state.md R70, 20_memory.md R113), and what its reset of the CPU leaves so. -/
theorem constructSession_fields (region : Region) (r : ResetRegs) (init : MemInit) (s : State) :
    let u := constructSession region r init s
    u.session = ⟨.unloaded, region, 0⟩ ∧ u.running = false ∧ u.dev.cart = none ∧
      u.ram = Memory.ofBytes 0x800 init.ram ∧ u.a = r.a ∧ u.x = r.x ∧ u.y = r.y ∧ u.sp = r.sp ∧ u.p.i = true := by
  simp only [constructSession]
  generalize hfresh : ({ State.resetIn region with
    ram := Memory.ofBytes 0x800 init.ram
    dev := apuReset (ppuReset region init
      { (State.resetIn region).dev with events := .constructed :: s.dev.events }) } : State) = fresh
  obtain ⟨d, pc, hreset, -, hcart⟩ := cpuReset_state r fresh
  rw [hreset, hcart, ← hfresh]
  exact ⟨rfl, rfl, rfl, rfl, rfl, rfl, rfl, rfl, rfl⟩

/-- `stopEmulation` as a host call (R570, R572): made twice is as made once, and it changes `running` and the phase alone. -/
theorem hostCall_stopEmulation {s : State} (hs : s.session.phase ≠ .destroyed) :
    hostCall .stopEmulation s = .next (stopEmulation s) ∧
      hostCall .stopEmulation (stopEmulation s) = .next (stopEmulation s) := by
  constructor
  · rw [hostCall_of_not_destroyed hs rfl, makeCall]
  · rw [hostCall_of_not_destroyed (stopEmulation_not_destroyed hs) rfl, makeCall, stopEmulation_twice]

/-- Settles O60, call by call: one lemma for a session that is not destroyed, one for a destroyed one. -/
theorem hostCallsRequestStartStopAndDestroy : Obligations.HostCallsRequestStartStopAndDestroy := by
  intro s hs
  have hcall (c : HostCall) (hc : constructs c = false) : hostCall c s = makeCall c s := hostCall_of_not_destroyed hs hc
  refine ⟨hcall _ rfl, hcall _ rfl, hcall _ rfl, hcall _ rfl, fun hu => ?start, fun hu => ?refused, ?stop, ?destroy⟩
  case start => exact (hcall _ rfl).trans (startEmulation_of_loaded hs hu)
  case refused => exact (hcall _ rfl).trans (startEmulation_of_unloaded hu)
  case stop =>
    obtain ⟨honce, htwice⟩ := hostCall_stopEmulation hs
    exact ⟨stopEmulation s, honce, htwice, rfl, phaseStopped_eq s.session.phase⟩
  case destroy =>
    have hstep : step (destroySession s) = .fault .noStep := step_of_not_running (destroySession_running s)
    exact ⟨destroySession s, hcall _ rfl, destroySession_phase s, destroySession_running s, destroySession_ram s,
      destroySession_vram s, destroySession_oam s, hstep, fun c hc => hostCall_destroySession hc s,
      fun region r init => ⟨constructSession region r init (destroySession s),
        hostCall_construct (destroySession_phase s) region r init, constructSession_fields region r init _⟩⟩

end Sys2Proof.Machine
end

section
/-! PROOFS. What a mnemonic makes of its operand, as one of eight effects (30_encoding.md R183, R191), and what every effect can leave
behind: one case split over the instructions, from which their frames follow by effect. -/

namespace Sys2Proof

open Sys2Proof.Machine Sys2Proof.Claims

/-- How an instruction acts: by one of the access classes (R183) with its own part in them, as a branch, a jump or a call, or by
halting. -/
inductive Effect where
  | implied (f : State → State)
  | read (o : Source) (f : Byte → State → State)
  | write (m : MemOperand) (v : State → Byte)
  | modify (m : MemOperand) (f : Byte → Flags → Byte × Flags) (g : Byte → State → State)
  | branch (cond : Flags → Bool) (b : Byte)
  | jump (m : MemOperand)
  | call (w : Word)
  | halt

/-- The effect as the model runs it, with its base count. -/
def Effect.run (base : Nat) (s : State) : Effect → Result
  | .implied f => Machine.implied base f s
  | .read o f => readClass o base f s
  | .write m v => writeClass m base v s
  | .modify m f g => modifyClass m base f g s
  | .branch cond b => Machine.branch (cond s.p) b s
  | .jump m => opJmp m base s
  | .call w => execJsr w s
  | .halt => Machine.halt s

/-- A read-class mnemonic on its operand. NOP stands here in implied mode too, where it has no effect (48_flags_system.md R408,
49_undocumented.md R421); no other read-class mnemonic has a mode without an operand byte. -/
def readBy (f : Byte → State → State) : Operand → Effect
  | .immediate b => .read (.imm b) f
  | .memory m => .read (.mem m) f
  | .implied | .accumulator | .relative _ => .implied id

/-- A write-class mnemonic on its operand, which is always in memory. -/
def writeBy (v : State → Byte) : Operand → Effect
  | .memory m => .write m v
  | .implied | .accumulator | .immediate _ | .relative _ => .implied id

/-- A read-modify-write mnemonic on its operand in memory, or on A as `acc` says. -/
def modifyBy (f : Byte → Flags → Byte × Flags) (g : Byte → State → State) (acc : State → State) : Operand → Effect
  | .memory m => .modify m f g
  | .accumulator => .implied acc
  | .implied | .immediate _ | .relative _ => .implied id

/-- N and Z of a modified byte, the end of a shift, INC and DEC. -/
def flagNZ (r : Byte) (s : State) : State := { s with p := setNZ r s.p }

/-- A shift or rotate of A (30_encoding.md R171). -/
def shiftA (f : Byte → Flags → Byte × Flags) (s : State) : State :=
  { s with a := (f s.a s.p).1, p := setNZ (f s.a s.p).1 (f s.a s.p).2 }

/-- A branch on its operand. -/
def branchBy (cond : Flags → Bool) : Operand → Effect
  | .relative b => .branch cond b
  | .implied | .accumulator | .immediate _ | .memory _ => .implied id

/-- JMP on its operand (47_control.md R375). -/
def jumpBy : Operand → Effect
  | .memory m => .jump m
  | .implied | .accumulator | .immediate _ | .relative _ => .implied id

/-- JSR on its operand, which is always absolute (R376). -/
def callBy : Operand → Effect
  | .memory (.abs w) => .call w
  | _ => .implied id

/-- The effect of each mnemonic on an operand (R191). -/
def effectOf : Mnemonic → Operand → Effect
  | .lda, o => readBy loadA o
  | .ldx, o => readBy loadX o
  | .ldy, o => readBy loadY o
  | .lax, o => readBy (fun v s => { s with a := v, x := v, p := setNZ v s.p }) o
  | .las, o => readBy (fun m s => let v := m &&& s.sp; { s with a := v, x := v, sp := v, p := setNZ v s.p }) o
  | .adc, o => readBy adcA o
  | .sbc, o => readBy sbcA o
  | .cmp, o => readBy (fun m s => { s with p := compareFlags s.a m s.p }) o
  | .cpx, o => readBy (fun m s => { s with p := compareFlags s.x m s.p }) o
  | .cpy, o => readBy (fun m s => { s with p := compareFlags s.y m s.p }) o
  | .and, o => readBy (fun m s => setA (s.a &&& m) s) o
  | .ora, o => readBy (fun m s => setA (s.a ||| m) s) o
  | .eor, o => readBy (fun m s => setA (s.a ^^^ m) s) o
  | .bit, o => readBy (fun m s => { s with p := bitFlags s.a m s.p }) o
  | .nop, o => readBy (fun _ s => s) o
  | .anc, o => readBy (fun m s => { s with a := s.a &&& m, p := ancFlags (s.a &&& m) s.p }) o
  | .alr, o => readBy (fun m s => { s with a := (alrStep (s.a &&& m) s.p).1, p := (alrStep (s.a &&& m) s.p).2 }) o
  | .arr, o => readBy (fun m s => { s with a := (arrStep (s.a &&& m) s.p).1, p := (arrStep (s.a &&& m) s.p).2 }) o
  | .axs, o =>
    readBy (fun m s => { s with x := (axsStep (s.a &&& s.x) m s.p).1, p := (axsStep (s.a &&& s.x) m s.p).2 }) o
  | .sta, o => writeBy State.a o
  | .stx, o => writeBy State.x o
  | .sty, o => writeBy State.y o
  | .sax, o => writeBy (fun s => s.a &&& s.x) o
  | .asl, o => modifyBy shiftLeft flagNZ (shiftA shiftLeft) o
  | .lsr, o => modifyBy shiftRight flagNZ (shiftA shiftRight) o
  | .rol, o => modifyBy rotateLeft flagNZ (shiftA rotateLeft) o
  | .ror, o => modifyBy rotateRight flagNZ (shiftA rotateRight) o
  | .inc, o => modifyBy increment flagNZ id o
  | .dec, o => modifyBy decrement flagNZ id o
  | .slo, o => modifyBy shiftLeft (fun r s => setA (s.a ||| r) s) id o
  | .rla, o => modifyBy rotateLeft (fun r s => setA (s.a &&& r) s) id o
  | .sre, o => modifyBy shiftRight (fun r s => setA (s.a ^^^ r) s) id o
  | .rra, o => modifyBy rotateRight adcA id o
  | .dcp, o => modifyBy decrement (fun r s => { s with p := compareFlags s.a r s.p }) id o
  | .isc, o => modifyBy increment sbcA id o
  | .tax, _ => .implied fun s => { s with x := s.a, p := setNZ s.a s.p }
  | .tay, _ => .implied fun s => { s with y := s.a, p := setNZ s.a s.p }
  | .txa, _ => .implied fun s => { s with a := s.x, p := setNZ s.x s.p }
  | .tya, _ => .implied fun s => { s with a := s.y, p := setNZ s.y s.p }
  | .tsx, _ => .implied fun s => { s with x := s.sp, p := setNZ s.sp s.p }
  | .txs, _ => .implied fun s => { s with sp := s.x }
  | .inx, _ => .implied fun s => { s with x := s.x + 1, p := setNZ (s.x + 1) s.p }
  | .iny, _ => .implied fun s => { s with y := s.y + 1, p := setNZ (s.y + 1) s.p }
  | .dex, _ => .implied fun s => { s with x := s.x - 1, p := setNZ (s.x - 1) s.p }
  | .dey, _ => .implied fun s => { s with y := s.y - 1, p := setNZ (s.y - 1) s.p }
  | .clc, _ => .implied fun s => { s with p := { s.p with c := false } }
  | .sec, _ => .implied fun s => { s with p := { s.p with c := true } }
  | .cli, _ => .implied fun s => { s with p := { s.p with i := false } }
  | .sei, _ => .implied fun s => { s with p := { s.p with i := true } }
  | .cld, _ => .implied fun s => { s with p := { s.p with d := false } }
  | .sed, _ => .implied fun s => { s with p := { s.p with d := true } }
  | .clv, _ => .implied fun s => { s with p := { s.p with v := false } }
  | .pha, _ => .implied fun s => push s.a s
  | .php, _ => .implied fun s => push (packP true s.p) s
  | .pla, _ => .implied fun s => let v := pull s; { v.2 with a := v.1, p := setNZ v.1 v.2.p }
  | .plp, _ => .implied fun s => let v := pull s; { v.2 with p := unpackP v.1 }
  | .brk, _ => .implied fun s => enterInterrupt irqVector (s.pc + 1) true s
  | .rti, _ => .implied returnFromInterrupt
  | .rts, _ => .implied fun s => let t := pullWord s; { t.2 with pc := t.1 + 1 }
  | .bpl, o => branchBy (fun p => !p.n) o
  | .bmi, o => branchBy (fun p => p.n) o
  | .bvc, o => branchBy (fun p => !p.v) o
  | .bvs, o => branchBy (fun p => p.v) o
  | .bcc, o => branchBy (fun p => !p.c) o
  | .bcs, o => branchBy (fun p => p.c) o
  | .bne, o => branchBy (fun p => !p.z) o
  | .beq, o => branchBy (fun p => p.z) o
  | .jmp, o => jumpBy o
  | .jsr, o => callBy o
  | .jam, _ | .ane, _ | .lxa, _ | .sha, _ | .shs, _ | .shy, _ | .shx, _ => .halt

/-- The effect of an instruction. -/
def Instr.effect (i : Instr) : Effect := effectOf i.mnemonic i.operand

/-- Every instruction runs as its effect, for some base count. -/
theorem exec_eq_run (i : Instr) : ∃ base, ∀ s, exec i s = i.effect.run base s := by
  cases i
  case bpl | bmi | bvc | bvs | bcc | bcs | bne | beq | jsr | jam02 | jam12 | jam22 | jam32 | jam42 | jam52 | jam62 | jam72
      | jam92 | jamB2 | jamD2 | jamF2 | ane | lxa | shaIndy | shaAbsy | shs | shy | shx => exact ⟨0, fun _ => rfl⟩
  all_goals exact ⟨_, fun _ => rfl⟩

end Sys2Proof
end

section
/-! PROOFS. What holds between an instruction's start and end because it holds along every operation the instruction is made of: a
frame is proved of the operations and of a mnemonic's own part, and then holds of the instruction. -/

namespace Sys2Proof

open Sys2Proof.Machine Sys2Proof.Claims

/-- The state an effect starts from: PC past the instruction (30_encoding.md R163), and for a halt at its opcode byte (60_exceptions.md
R500). -/
def Effect.start : Effect → State → State
  | .implied _, s => advancePc 1 s
  | .read o _, s => advancePc (sourceLength o) s
  | .write m _, s | .modify m _ _, s | .jump m, s => advancePc (memLength m) s
  | .branch _ _, s => advancePc 2 s
  | .call _, s => advancePc 3 s
  | .halt, s => s

theorem effect_start (i : Instr) (s : State) :
    i.effect.start s = if i.halts then s else advancePc i.row.mode.length s := by cases i <;> rfl

/-- The effect halts. -/
def Effect.halts : Effect → Bool
  | .halt => true
  | .implied _ | .read _ _ | .write _ _ | .modify _ _ _ | .branch _ _ | .jump _ | .call _ => false

theorem Effect.eq_halt {e : Effect} (h : e.halts = true) : e = .halt := by
  cases e with
  | halt => rfl
  | _ => nomatch h

theorem effect_halts (i : Instr) : i.effect.halts = i.halts := by cases i <;> rfl

/-- A relation of a state to a later one that holds along every memory access and does not look at the count. -/
structure IsFrame (R : State → State → Prop) : Prop where
  refl : ∀ s, R s s
  trans : ∀ {s t u}, R s t → R t u → R s u
  memRead : ∀ a s, R s (memRead a s).2
  memWrite : ∀ a v s, R s (memWrite a v s)
  withCycles : ∀ n s, R s (withCycles n s)

/-- The mnemonic's own part of the effect stays within the relation. -/
def Effect.Within (R : State → State → Prop) : Effect → Prop
  | .implied f => ∀ s, R s (f s)
  | .read _ f => ∀ v s, R s (f v s)
  | .write _ _ => True
  | .modify _ f g => (∀ v s, R s { s with p := (f v s.p).2 }) ∧ ∀ r s, R s (g r s)
  | .branch _ _ | .jump _ => ∀ s pc, R s { s with pc := pc }
  | .call w => ∀ s, R s { pushWord (s.pc - 1) s with pc := w }
  | .halt => ∀ s, R s { s with halted := true, cycles := none }

section frame
variable {R : State → State → Prop} (hR : IsFrame R)
include hR

theorem IsFrame.effAddr (m : MemOperand) (s : State) : R s (effAddr m s).state := by
  by_cases h : m.mode = .ind
  · cases m with
    | ind w => exact hR.trans (hR.memRead w s) (hR.memRead _ _)
    | _ => nomatch h
  · rw [effAddr_state h]
    exact hR.refl s

theorem IsFrame.readSource (o : Source) (s : State) : R s (readSource o s).state := by
  cases o with
  | imm b => exact hR.refl s
  | mem m => exact hR.trans (hR.effAddr m s) (hR.memRead _ _)

/-- An interrupt entry stays within a frame that its pushes, with I set, and a new PC stay within. -/
theorem IsFrame.enterInterrupt (hpc : ∀ s pc, R s { s with pc := pc }) (vector ret : Word) (b : Bool) {s : State}
    (hf : R s (entryFrame ret b s)) : R s (enterInterrupt vector ret b s) := by
  rw [enterInterrupt_eq]
  have hread : R (entryFrame ret b s) (read16 vector (entryFrame ret b s)).2 := hR.trans (hR.memRead _ _) (hR.memRead _ _)
  exact hR.trans hf (hR.trans hread (hpc _ _))

/-- Every effect answers a next state, and what its own part stays within holds from its start to its end. -/
theorem IsFrame.run {e : Effect} (he : e.Within R) (base : Nat) (s : State) :
    ∃ t, e.run base s = .next t ∧ R (e.start s) t := by
  cases e with
  | implied f => exact ⟨_, rfl, hR.trans (he _) (hR.withCycles _ _)⟩
  | read o f => exact ⟨_, rfl, hR.trans (hR.readSource o _) (hR.trans (he _ _) (hR.withCycles _ _))⟩
  | write m v => exact ⟨_, rfl, hR.trans (hR.effAddr m _) (hR.trans (hR.memWrite _ _ _) (hR.withCycles _ _))⟩
  | modify m f g =>
    obtain ⟨hf, hg⟩ := he
    let ea := Machine.effAddr m (advancePc (memLength m) s)
    let v := Machine.memRead ea.addr ea.state
    have hread : R (advancePc (memLength m) s) v.2 := hR.trans (hR.effAddr m _) (hR.memRead _ _)
    have hflags : R (advancePc (memLength m) s) { v.2 with p := (f v.1 v.2.p).2 } := hR.trans hread (hf _ _)
    exact ⟨_, rfl, hR.trans hflags (hR.trans (hR.memWrite _ _ _) (hR.trans (hg _ _) (hR.withCycles _ _)))⟩
  | branch cond b =>
    simp only [Effect.run, branch]
    split
    · exact ⟨_, rfl, hR.trans (he _ _) (hR.withCycles _ _)⟩
    · exact ⟨_, rfl, hR.withCycles _ _⟩
  | jump m => exact ⟨_, rfl, hR.trans (hR.effAddr m _) (hR.trans (he _ _) (hR.withCycles _ _))⟩
  | call w => exact ⟨_, rfl, hR.trans (he _) (hR.withCycles _ _)⟩
  | halt => exact ⟨_, rfl, he _⟩

/-- The frame rule of the instructions. -/
theorem IsFrame.exec (i : Instr) (s : State) (he : i.effect.Within R) : ∃ t, exec i s = .next t ∧ R (i.effect.start s) t := by
  obtain ⟨base, hrun⟩ := exec_eq_run i
  rw [hrun]
  exact hR.run he base s

theorem IsFrame.readBy {f : Byte → State → State} (hf : ∀ v s, R s (f v s)) (o : Operand) : (readBy f o).Within R := by
  cases o with
  | immediate b => exact hf
  | memory m => exact hf
  | implied => exact hR.refl
  | accumulator => exact hR.refl
  | relative b => exact hR.refl

theorem IsFrame.writeBy (v : State → Byte) (o : Operand) : (writeBy v o).Within R := by
  cases o with
  | memory m => trivial
  | _ => exact hR.refl

theorem IsFrame.modifyBy {f : Byte → Flags → Byte × Flags} {g : Byte → State → State} {acc : State → State}
    (hf : ∀ v s, R s { s with p := (f v s.p).2 }) (hg : ∀ r s, R s (g r s)) {o : Operand}
    (hacc : o = .accumulator → ∀ s, R s (acc s)) : (modifyBy f g acc o).Within R := by
  cases o with
  | memory m => exact ⟨hf, hg⟩
  | accumulator => exact hacc rfl
  | _ => exact hR.refl

theorem IsFrame.branchBy (hpc : ∀ s pc, R s { s with pc := pc }) (cond : Flags → Bool) (o : Operand) :
    (branchBy cond o).Within R := by
  cases o with
  | relative b => exact hpc
  | _ => exact hR.refl

theorem IsFrame.jumpBy (hpc : ∀ s pc, R s { s with pc := pc }) (o : Operand) : (jumpBy o).Within R := by
  cases o with
  | memory m => exact hpc
  | _ => exact hR.refl

theorem IsFrame.callBy (hcall : ∀ w s, R s { pushWord (s.pc - 1) s with pc := w }) (o : Operand) :
    (callBy o).Within R := by
  cases o with
  | memory m =>
    cases m with
    | abs w => exact hcall w
    | _ => exact hR.refl
  | _ => exact hR.refl

end frame

end Sys2Proof
end

section
/-! PROOFS. Which instructions write which register and which flag (10_state.md R53, R57): the mnemonics' own parts keep what their rows
do not list, and so do the instructions. -/

namespace Sys2Proof

open Sys2Proof.Machine Sys2Proof.Claims

/-- The registers that R53 does not list the mnemonic for are the same. -/
def RegistersKept (m : Mnemonic) (o : Operand) (s t : State) : Prop :=
  (m ∉ writersOfA → (m ∉ shifts ∨ o ≠ .accumulator) → t.a = s.a) ∧ (m ∉ writersOfX → t.x = s.x) ∧
    (m ∉ writersOfY → t.y = s.y) ∧ (m ∉ writersOfSp → t.sp = s.sp)

theorem registersKept_isFrame (m : Mnemonic) (o : Operand) : IsFrame (RegistersKept m o) where
  refl s := ⟨fun _ _ => rfl, fun _ => rfl, fun _ => rfl, fun _ => rfl⟩
  trans := by
    rintro s t u ⟨ha, hx, hy, hsp⟩ ⟨ka, kx, ky, ksp⟩
    exact ⟨fun h h' => (ka h h').trans (ha h h'), fun h => (kx h).trans (hx h), fun h => (ky h).trans (hy h),
      fun h => (ksp h).trans (hsp h)⟩
  memRead a s := ⟨fun _ _ => memRead_a a s, fun _ => memRead_x a s, fun _ => memRead_y a s, fun _ => memRead_sp a s⟩
  memWrite a v s := ⟨fun _ _ => memWrite_a a v s, fun _ => memWrite_x a v s, fun _ => memWrite_y a v s,
    fun _ => memWrite_sp a v s⟩
  withCycles n s := ⟨fun _ _ => rfl, fun _ => rfl, fun _ => rfl, fun _ => rfl⟩

/-- A change of PC, flags, memory, devices, `halted` and count keeps the four registers. -/
theorem RegistersKept.of_same {m : Mnemonic} {o : Operand} {s t : State} (ha : t.a = s.a) (hx : t.x = s.x) (hy : t.y = s.y)
    (hsp : t.sp = s.sp) : RegistersKept m o s t := ⟨fun _ _ => ha, fun _ => hx, fun _ => hy, fun _ => hsp⟩

/-- The own part of every mnemonic writes at most its registers of R53. -/
theorem effectOf_registersKept (m : Mnemonic) (o : Operand) : (effectOf m o).Within (RegistersKept m o) := by
  have hframe := registersKept_isFrame m o
  cases m
  case lda | ldx | ldy | lax | las | adc | sbc | cmp | cpx | cpy | and | ora | eor | bit | nop | anc | alr | arr | axs =>
    refine hframe.readBy (fun v s => ?_) o
    simp [RegistersKept, writersOfA, writersOfX, writersOfY, writersOfSp]
  case sta | stx | sty | sax => exact hframe.writeBy _ o
  case asl | lsr | rol | ror =>
    refine hframe.modifyBy (fun v s => ?_) (fun r s => ?_) fun hacc s => ?_
    · exact .of_same rfl rfl rfl rfl
    · exact .of_same rfl rfl rfl rfl
    · simp [RegistersKept, shifts, hacc, shiftA]
  case inc | dec | dcp =>
    refine hframe.modifyBy (fun v s => ?_) (fun r s => ?_) fun _ => hframe.refl
    · exact .of_same rfl rfl rfl rfl
    · exact .of_same rfl rfl rfl rfl
  case slo | rla | sre | rra | isc =>
    refine hframe.modifyBy (fun v s => ?_) (fun r s => ?_) fun _ => hframe.refl
    · exact .of_same rfl rfl rfl rfl
    · simp [RegistersKept, writersOfA]
  case bpl | bmi | bvc | bvs | bcc | bcs | bne | beq => exact hframe.branchBy (fun _ _ => .of_same rfl rfl rfl rfl) _ o
  case jmp => exact hframe.jumpBy (fun _ _ => .of_same rfl rfl rfl rfl) o
  case jsr =>
    refine hframe.callBy (fun w s => ?_) o
    simp [RegistersKept, writersOfSp, pushWord_eq]
  case brk =>
    refine fun s => hframe.enterInterrupt (fun _ _ => .of_same rfl rfl rfl rfl) _ _ _ ?_
    simp [RegistersKept, writersOfSp, entryFrame]
  case jam | ane | lxa | sha | shs | shy | shx => exact fun s => .of_same rfl rfl rfl rfl
  all_goals
    intro s
    simp [RegistersKept, writersOfA, writersOfX, writersOfY, writersOfSp, push_eq, pull_eq, pullWord_eq,
      returnFromInterrupt_eq]

/-- Settles O37: each mnemonic's own part keeps the registers R53 does not list it for, and no access writes a register. -/
theorem registersHaveOnlyTheirWriters : Obligations.RegistersHaveOnlyTheirWriters := by
  intro i s
  obtain ⟨t, ht, hkept⟩ := (registersKept_isFrame _ _).exec i s (effectOf_registersKept i.mnemonic i.operand)
  have hstart : RegistersKept i.mnemonic i.operand s (i.effect.start s) := by
    rw [effect_start]
    split
    · exact (registersKept_isFrame _ _).refl s
    · exact .of_same rfl rfl rfl rfl
  exact ⟨t, ht, (registersKept_isFrame _ _).trans hstart hkept⟩

/-- The flags that R57 does not list the mnemonic for are the same. -/
def FlagsKept (m : Mnemonic) (p q : Flags) : Prop :=
  (m ∉ writersOfNZ → q.n = p.n ∧ q.z = p.z) ∧ (m ∉ writersOfV → q.v = p.v) ∧ (m ∉ writersOfD → q.d = p.d) ∧
    (m ∉ writersOfI → q.i = p.i) ∧ (m ∉ writersOfC → q.c = p.c)

theorem FlagsKept.refl (m : Mnemonic) (p : Flags) : FlagsKept m p p :=
  ⟨fun _ => ⟨rfl, rfl⟩, fun _ => rfl, fun _ => rfl, fun _ => rfl, fun _ => rfl⟩

theorem FlagsKept.of_eq {m : Mnemonic} {p q : Flags} (h : q = p) : FlagsKept m p q := h ▸ .refl m p

theorem FlagsKept.trans {m : Mnemonic} {p q r : Flags} (h : FlagsKept m p q) (k : FlagsKept m q r) : FlagsKept m p r := by
  obtain ⟨hnz, hv, hd, hi, hc⟩ := h
  obtain ⟨knz, kv, kd, ki, kc⟩ := k
  exact ⟨fun h => ⟨(knz h).1.trans (hnz h).1, (knz h).2.trans (hnz h).2⟩, fun h => (kv h).trans (hv h),
    fun h => (kd h).trans (hd h), fun h => (ki h).trans (hi h), fun h => (kc h).trans (hc h)⟩

theorem flagsKept_isFrame (m : Mnemonic) : IsFrame fun s t => FlagsKept m s.p t.p where
  refl s := .refl m s.p
  trans := .trans
  memRead a s := .of_eq (memRead_p a s)
  memWrite a v s := .of_eq (memWrite_p a v s)
  withCycles _ s := .refl m s.p

/-- The own part of every mnemonic writes at most its flags of R57. -/
theorem effectOf_flagsKept (m : Mnemonic) (o : Operand) : (effectOf m o).Within fun s t => FlagsKept m s.p t.p := by
  have hframe := flagsKept_isFrame m
  cases m
  case lda | ldx | ldy | lax | las | adc | sbc | cmp | cpx | cpy | and | ora | eor | bit | nop | anc | alr | arr | axs =>
    refine hframe.readBy (fun v s => ?_) o
    simp [FlagsKept, writersOfNZ, writersOfV, writersOfC, alrStep, arrStep, axsStep]
  case sta | stx | sty | sax => exact hframe.writeBy _ o
  case asl | lsr | rol | ror | inc | dec | slo | rla | sre | rra | dcp | isc =>
    refine hframe.modifyBy (fun v s => ?_) (fun r s => ?_) fun _ s => ?_ <;>
      simp [FlagsKept, writersOfNZ, writersOfV, writersOfC, flagNZ, shiftA]
  case bpl | bmi | bvc | bvs | bcc | bcs | bne | beq => exact hframe.branchBy (fun _ _ => .refl _ _) _ o
  case jmp => exact hframe.jumpBy (fun _ _ => .refl _ _) o
  case jsr =>
    refine hframe.callBy (fun w s => ?_) o
    exact .of_eq (by rw [pushWord_eq])
  case brk =>
    refine fun s => hframe.enterInterrupt (fun _ _ => .refl _ _) _ _ _ ?_
    simp [FlagsKept, writersOfI, entryFrame]
  case jam | ane | lxa | sha | shs | shy | shx => exact fun s => .refl _ s.p
  all_goals
    intro s
    simp [FlagsKept, writersOfNZ, writersOfV, writersOfD, writersOfI, writersOfC, push_eq, pull_eq, pullWord_eq,
      returnFromInterrupt_eq]

/-- Settles O38: each mnemonic's own part keeps the flags R57 does not list it for, and no access writes a flag. -/
theorem flagsHaveOnlyTheirWriters : Obligations.FlagsHaveOnlyTheirWriters := by
  intro i s
  obtain ⟨t, ht, hkept⟩ := (flagsKept_isFrame _).exec i s (effectOf_flagsKept i.mnemonic i.operand)
  have hstart : (i.effect.start s).p = s.p := by
    rw [effect_start]
    split <;> rfl
  exact ⟨t, ht, hstart ▸ hkept⟩

end Sys2Proof
end

section
/-! PROOFS. PC and the rest of the machine (10_state.md R55, R62, R65): an instruction that transfers no control leaves PC past itself,
and what no instruction writes stays, but for what the free Bus may do to the devices (20_memory.md R107). -/

namespace Sys2Proof

open Sys2Proof.Machine Sys2Proof.Claims

theorem samePc_isFrame : IsFrame fun s t => t.pc = s.pc where
  refl _ := rfl
  trans h k := k.trans h
  memRead := memRead_pc
  memWrite := memWrite_pc
  withCycles _ _ := rfl

/-- A mnemonic that transfers no control moves PC no further. -/
theorem effectOf_samePc {m : Mnemonic} (h : m ∉ transfers) (o : Operand) : (effectOf m o).Within fun s t => t.pc = s.pc := by
  have hframe := samePc_isFrame
  cases m
  case lda | ldx | ldy | lax | las | adc | sbc | cmp | cpx | cpy | and | ora | eor | bit | nop | anc | alr | arr | axs =>
    refine hframe.readBy (fun v s => ?_) o
    rfl
  case sta | stx | sty | sax => exact hframe.writeBy _ o
  case asl | lsr | rol | ror | inc | dec | slo | rla | sre | rra | dcp | isc =>
    refine hframe.modifyBy (fun v s => ?_) (fun r s => ?_) fun _ s => ?_ <;> rfl
  case bpl | bmi | bvc | bvs | bcc | bcs | bne | beq | jmp | jsr | rts | rti | brk => exact absurd (by decide) h
  case jam | ane | lxa | sha | shs | shy | shx => exact fun _ => rfl
  case pha | php | pla | plp => exact fun s => by simp [push_eq, pull_eq]
  all_goals exact fun _ => rfl

/-- Settles O43: PC moves past the instruction at its start, and nothing after that moves it. -/
theorem pcAdvancesByTheLength : Obligations.PcAdvancesByTheLength := by
  intro i s h
  obtain ⟨t, ht, hpc⟩ := samePc_isFrame.exec i s (effectOf_samePc h i.operand)
  refine ⟨t, ht, ?_⟩
  rw [hpc, effect_start]
  split
  · rfl
  · simp

/-- What a CPU access leaves of the devices (20_memory.md R107): the history grows at its new end, nothing changes where it does not,
and the cartridge, the pads, the PPU's place and pixels, and the APU's run, clock and output stay. -/
structure DevicesKept (d e : Devices) : Prop where
  events : d.events <:+ e.events
  quiet : e.events = d.events → e = d
  cart : e.cart = d.cart
  pad1 : e.pad1 = d.pad1
  pad2 : e.pad2 = d.pad2
  timing : e.ppu.timing = d.ppu.timing
  pixels : e.ppu.pixels = d.ppu.pixels
  running : e.apu.running = d.apu.running
  output : e.apu.output = d.apu.output
  clock : e.apu.clock = d.apu.clock

theorem DevicesKept.refl (d : Devices) : DevicesKept d d :=
  ⟨List.suffix_refl _, fun _ => rfl, rfl, rfl, rfl, rfl, rfl, rfl, rfl, rfl⟩

/-- A history that is the same after two lengthenings is the same between them. -/
theorem eq_of_suffix_of_suffix {α : Type} {l m n : List α} (hlm : l <:+ m) (hmn : m <:+ n) (h : n = l) : m = l :=
  (hlm.eq_of_length_le (h ▸ hmn).length_le).symm

theorem DevicesKept.trans {d e f : Devices} (h : DevicesKept d e) (k : DevicesKept e f) : DevicesKept d f where
  events := h.events.trans k.events
  quiet he := by
    have hmid : e.events = d.events := eq_of_suffix_of_suffix h.events k.events he
    exact (k.quiet (he.trans hmid.symm)).trans (h.quiet hmid)
  cart := k.cart.trans h.cart
  pad1 := k.pad1.trans h.pad1
  pad2 := k.pad2.trans h.pad2
  timing := k.timing.trans h.timing
  pixels := k.pixels.trans h.pixels
  running := k.running.trans h.running
  output := k.output.trans h.output
  clock := k.clock.trans h.clock

theorem applyReply_devicesKept (d : Devices) (e : BusEvent) (r : BusReply) : DevicesKept d (applyReply d e r) := by
  obtain ⟨vm, om, ms, mir, happly, -, -⟩ := applyReply_cases d e r
  rw [happly]
  exact ⟨List.suffix_cons _ _, fun h => absurd h (List.cons_ne_self _ _), rfl, rfl, rfl, rfl, rfl, rfl, rfl, rfl⟩

theorem busRead_devicesKept (d : Devices) (a : Word) : DevicesKept d (busRead d a).2 := by
  rcases busRead_cases d a with ⟨c, -, hread⟩ | ⟨-, hread⟩ <;> rw [hread]
  · exact .refl d
  · exact applyReply_devicesKept _ _ _

theorem busWrite_devicesKept (d : Devices) (a : Word) (v : Byte) : DevicesKept d (busWrite d a v).2 := by
  rcases busWrite_cases d a v with ⟨c, -, hwrite⟩ | ⟨-, hwrite⟩ <;> rw [hwrite]
  · exact .refl d
  · exact applyReply_devicesKept _ _ _

/-- What an instruction that does not halt leaves of the machine beside registers, flags, PC, count and RAM: the hidden bits and the
session, with an IRQ added at most by a device that was written. -/
structure RestKept (s t : State) : Prop where
  halted : t.halted = s.halted
  running : t.running = s.running
  nmiPending : t.nmiPending = s.nmiPending
  session : t.session = s.session
  irqPending : s.irqPending = true → t.irqPending = true
  dev : DevicesKept s.dev t.dev
  irqQuiet : t.dev.events = s.dev.events → t.irqPending = s.irqPending

/-- A change of registers, flags, PC, count and RAM leaves the rest. -/
theorem RestKept.of_same {s t : State} (hhalted : t.halted = s.halted) (hrun : t.running = s.running)
    (hnmi : t.nmiPending = s.nmiPending) (hsession : t.session = s.session) (hirq : t.irqPending = s.irqPending)
    (hdev : t.dev = s.dev) : RestKept s t :=
  ⟨hhalted, hrun, hnmi, hsession, fun h => hirq.trans h, hdev ▸ .refl _, fun _ => hirq⟩

theorem RestKept.trans {s t u : State} (h : RestKept s t) (k : RestKept t u) : RestKept s u where
  halted := k.halted.trans h.halted
  running := k.running.trans h.running
  nmiPending := k.nmiPending.trans h.nmiPending
  session := k.session.trans h.session
  irqPending hirq := k.irqPending (h.irqPending hirq)
  dev := h.dev.trans k.dev
  irqQuiet he := by
    have hmid : t.dev.events = s.dev.events := eq_of_suffix_of_suffix h.dev.events k.dev.events he
    exact (k.irqQuiet (he.trans hmid.symm)).trans (h.irqQuiet hmid)

theorem memRead_restKept (a : Word) (s : State) : RestKept s (memRead a s).2 := by
  by_cases h : isRam a = true
  · rw [memRead_ram h]
    exact .of_same rfl rfl rfl rfl rfl rfl
  · rw [memRead_bus (by simpa using h)]
    exact ⟨rfl, rfl, rfl, rfl, id, busRead_devicesKept _ _, fun _ => rfl⟩

theorem memWrite_restKept (a : Word) (v : Byte) (s : State) : RestKept s (memWrite a v s) := by
  by_cases h : isRam a = true
  · rw [memWrite_ram h]
    exact .of_same rfl rfl rfl rfl rfl rfl
  · rw [memWrite_bus (by simpa using h)]
    refine ⟨rfl, rfl, rfl, rfl, fun hirq => by simp [hirq], busWrite_devicesKept _ _ _, fun hquiet => ?_⟩
    simp [busWrite_quiet _ _ _ hquiet]

theorem restKept_isFrame : IsFrame RestKept where
  refl _ := .of_same rfl rfl rfl rfl rfl rfl
  trans := .trans
  memRead := memRead_restKept
  memWrite := memWrite_restKept
  withCycles _ _ := .of_same rfl rfl rfl rfl rfl rfl

/-- The own part of every mnemonic that does not halt leaves the rest: it is about registers, flags and the stack. -/
theorem effectOf_restKept {m : Mnemonic} {o : Operand} (h : (effectOf m o).halts = false) :
    (effectOf m o).Within RestKept := by
  have hframe := restKept_isFrame
  cases m
  case lda | ldx | ldy | lax | las | adc | sbc | cmp | cpx | cpy | and | ora | eor | bit | nop | anc | alr | arr | axs =>
    refine hframe.readBy (fun v s => ?_) o
    exact .of_same rfl rfl rfl rfl rfl rfl
  case sta | stx | sty | sax => exact hframe.writeBy _ o
  case asl | lsr | rol | ror | inc | dec | slo | rla | sre | rra | dcp | isc =>
    refine hframe.modifyBy (fun v s => ?_) (fun r s => ?_) fun _ s => ?_ <;> exact .of_same rfl rfl rfl rfl rfl rfl
  case bpl | bmi | bvc | bvs | bcc | bcs | bne | beq => exact hframe.branchBy (fun _ _ => .of_same rfl rfl rfl rfl rfl rfl) _ o
  case jmp => exact hframe.jumpBy (fun _ _ => .of_same rfl rfl rfl rfl rfl rfl) o
  case jsr =>
    refine hframe.callBy (fun w s => ?_) o
    rw [pushWord_eq]
    exact .of_same rfl rfl rfl rfl rfl rfl
  case brk =>
    refine fun s => hframe.enterInterrupt (fun _ _ => .of_same rfl rfl rfl rfl rfl rfl) _ _ _ ?_
    exact .of_same rfl rfl rfl rfl rfl rfl
  case jam | ane | lxa | sha | shs | shy | shx => exact absurd h (by simp [effectOf, Effect.halts])
  case pha | php | pla | plp | rti | rts =>
    intro s
    simp only [push_eq, pull_eq, pullWord_eq, returnFromInterrupt_eq]
    exact .of_same rfl rfl rfl rfl rfl rfl
  all_goals exact fun s => .of_same rfl rfl rfl rfl rfl rfl

/-- Settles O42: a halting instruction sets `halted` alone; of any other, each access and the mnemonic's own part leave the rest. -/
theorem instructionsLeaveTheRestOfTheMachine : Obligations.InstructionsLeaveTheRestOfTheMachine := by
  intro i s
  cases hhalts : i.halts with
  | true =>
    obtain ⟨base, hrun⟩ := exec_eq_run i
    rw [Effect.eq_halt ((effect_halts i).trans hhalts)] at hrun
    exact ⟨_, hrun s, rfl, rfl, rfl, by simp, id, List.suffix_refl _, fun _ => ⟨rfl, rfl⟩, rfl, rfl, rfl, rfl, rfl,
      rfl, rfl, rfl⟩
  | false =>
    obtain ⟨t, ht, hkept⟩ := restKept_isFrame.exec i s (effectOf_restKept ((effect_halts i).trans hhalts))
    have hstart : RestKept s (i.effect.start s) := by
      rw [effect_start, hhalts]
      exact .of_same rfl rfl rfl rfl rfl rfl
    obtain ⟨hhalted, hrun, hnmi, hsession, hirq, hdev, hquiet⟩ := hstart.trans hkept
    exact ⟨t, ht, hrun, hnmi, hsession, by simpa using hhalted, hirq, hdev.events, fun he => ⟨hdev.quiet he, hquiet he⟩,
      hdev.cart, hdev.pad1, hdev.pad2, hdev.timing, hdev.pixels, hdev.running, hdev.output, hdev.clock⟩

end Sys2Proof
end

section
/-! PROOFS. The decimal flag (10_state.md R60, 43_arithmetic.md R331, R334): no access and no mnemonic's own part but a push of P looks
at it. -/

namespace Sys2Proof

open Sys2Proof.Machine Sys2Proof.Claims

/-- The mnemonic's own part of the effect does the same with another D, and leaves that D. -/
def Effect.IgnoresD (d : Bool) : Effect → Prop
  | .implied f => ∀ s, f (withD d s) = withD d (f s)
  | .read _ f => ∀ v s, f v (withD d s) = withD d (f v s)
  | .write _ v => ∀ s, v (withD d s) = v s
  | .modify _ f g =>
    (∀ v p, f v { p with d := d } = ((f v p).1, { (f v p).2 with d := d })) ∧ ∀ r s, g r (withD d s) = withD d (g r s)
  | .branch cond _ => ∀ p, cond { p with d := d } = cond p
  | .jump _ | .call _ | .halt => True

theorem memRead_withD (d : Bool) (a : Word) (s : State) :
    memRead a (withD d s) = ((memRead a s).1, withD d (memRead a s).2) := by
  unfold memRead
  simp only [withD]
  split <;> rfl

theorem memWrite_withD (d : Bool) (a : Word) (v : Byte) (s : State) : memWrite a v (withD d s) = withD d (memWrite a v s) := by
  unfold memWrite
  simp only [withD]
  split <;> rfl

theorem effAddr_withD (d : Bool) (m : MemOperand) (s : State) :
    effAddr m (withD d s) = { effAddr m s with state := withD d (effAddr m s).state } := by
  cases m with
  | ind w => simp only [effAddr, memRead_withD]
  | indx b => simp [zpPointer, withD]
  | indy b => simp [zpPointer, withD]
  | _ => rfl

theorem readSource_withD (d : Bool) (o : Source) (s : State) :
    readSource o (withD d s) = { readSource o s with state := withD d (readSource o s).state } := by
  cases o with
  | imm b => rfl
  | mem m => simp only [readSource, effAddr_withD, memRead_withD]

theorem advancePc_withD (d : Bool) (n : Nat) (s : State) : advancePc n (withD d s) = withD d (advancePc n s) := rfl

theorem withCycles_withD (d : Bool) (n : Nat) (s : State) : withCycles n (withD d s) = withD d (withCycles n s) := rfl

/-- An effect whose own part ignores D ignores it. -/
theorem run_withD {d : Bool} {e : Effect} (he : e.IgnoresD d) (base : Nat) (s : State) :
    e.run base (withD d s) = Result.withD d (e.run base s) := by
  cases e with
  | implied f => simp only [Effect.run, implied, advancePc_withD, he _, withCycles_withD, Result.withD]
  | read o f => simp only [Effect.run, readClass, advancePc_withD, readSource_withD, he _ _, withCycles_withD, Result.withD]
  | write m v =>
    simp only [Effect.run, writeClass, advancePc_withD, effAddr_withD, he _, memWrite_withD, withCycles_withD, Result.withD]
  | modify m f g =>
    obtain ⟨hf, hg⟩ := he
    simp only [Effect.run, modifyClass, advancePc_withD, effAddr_withD, memRead_withD, Result.withD]
    generalize hv : memRead _ _ = v
    have hflags : f v.1 (withD d v.2).p = ((f v.1 v.2.p).1, { (f v.1 v.2.p).2 with d := d }) := hf _ _
    have hstate : { withD d v.2 with p := { (f v.1 v.2.p).2 with d := d } } = withD d { v.2 with p := (f v.1 v.2.p).2 } := rfl
    rw [hflags, hstate, memWrite_withD, hg, withCycles_withD]
  | branch cond b =>
    have hcond : cond (withD d s).p = cond s.p := he s.p
    simp only [Effect.run, hcond, branch]
    split <;> rfl
  | jump m => simp only [Effect.run, opJmp, advancePc_withD, effAddr_withD]; rfl
  | call w => simp only [Effect.run, execJsr, pushWord_eq]; rfl
  | halt => rfl

theorem readBy_ignoresD {d : Bool} {f : Byte → State → State} (hf : ∀ v s, f v (withD d s) = withD d (f v s))
    (o : Operand) : (readBy f o).IgnoresD d := by
  cases o with
  | immediate b => exact hf
  | memory m => exact hf
  | _ => exact fun _ => rfl

theorem writeBy_ignoresD {d : Bool} {v : State → Byte} (hv : ∀ s, v (withD d s) = v s) (o : Operand) :
    (writeBy v o).IgnoresD d := by
  cases o with
  | memory m => exact hv
  | _ => exact fun _ => rfl

theorem modifyBy_ignoresD {d : Bool} {f : Byte → Flags → Byte × Flags} {g : Byte → State → State} {acc : State → State}
    (hf : ∀ v p, f v { p with d := d } = ((f v p).1, { (f v p).2 with d := d }))
    (hg : ∀ r s, g r (withD d s) = withD d (g r s)) (hacc : ∀ s, acc (withD d s) = withD d (acc s)) (o : Operand) :
    (modifyBy f g acc o).IgnoresD d := by
  cases o with
  | memory m => exact ⟨hf, hg⟩
  | accumulator => exact hacc
  | _ => exact fun _ => rfl

theorem branchBy_ignoresD {d : Bool} {cond : Flags → Bool} (hcond : ∀ p, cond { p with d := d } = cond p) (o : Operand) :
    (branchBy cond o).IgnoresD d := by
  cases o with
  | relative b => exact hcond
  | _ => exact fun _ => rfl

theorem jumpBy_ignoresD (d : Bool) (o : Operand) : (jumpBy o).IgnoresD d := by
  cases o with
  | memory m => trivial
  | _ => exact fun _ => rfl

theorem callBy_ignoresD (d : Bool) (o : Operand) : (callBy o).IgnoresD d := by
  cases o with
  | memory m =>
    cases m with
    | abs w => trivial
    | _ => exact fun _ => rfl
  | _ => exact fun _ => rfl

/-- Every mnemonic but PHP, BRK and the four that write D ignores it. -/
theorem effectOf_ignoresD {m : Mnemonic} (hphp : m ≠ .php) (hbrk : m ≠ .brk) (hd : m ∉ writersOfD) (d : Bool) (o : Operand) :
    (effectOf m o).IgnoresD d := by
  cases m
  case lda | ldx | ldy | lax | las | adc | sbc | cmp | cpx | cpy | and | ora | eor | bit | nop | anc | alr | arr | axs =>
    refine readBy_ignoresD (fun v s => ?_) o
    rfl
  case sta | stx | sty | sax =>
    refine writeBy_ignoresD (fun s => ?_) o
    rfl
  case asl | lsr | rol | ror | inc | dec | slo | rla | sre | rra | dcp | isc =>
    refine modifyBy_ignoresD (fun v p => ?_) (fun r s => ?_) (fun s => ?_) o <;> rfl
  case bpl | bmi | bvc | bvs | bcc | bcs | bne | beq =>
    refine branchBy_ignoresD (fun p => ?_) o
    rfl
  case jmp => exact jumpBy_ignoresD d o
  case jsr => exact callBy_ignoresD d o
  case jam | ane | lxa | sha | shs | shy | shx => trivial
  case php => exact absurd rfl hphp
  case brk => exact absurd rfl hbrk
  case cld | sed | plp | rti => exact absurd (by decide) hd
  case pha => exact fun s => by simp only [push_eq]; rfl
  case pla => exact fun s => by simp only [pull_eq]; rfl
  case rts => exact fun s => by simp only [pullWord_eq]; rfl
  all_goals exact fun s => rfl

/-- A mnemonic that writes D does so whatever D was, and looks at it no more than the others. -/
theorem run_withD_of_writer {m : Mnemonic} (hd : m ∈ writersOfD) (o : Operand) (d : Bool) (base : Nat) (s : State) :
    (effectOf m o).run base (withD d s) = (effectOf m o).run base s := by
  have hm : m = .cld ∨ m = .sed ∨ m = .plp ∨ m = .rti := by simpa [writersOfD] using hd
  rcases hm with rfl | rfl | rfl | rfl
  · rfl
  · rfl
  · simp only [effectOf, Effect.run, implied, pull_eq]
    rfl
  · simp only [effectOf, Effect.run, implied, returnFromInterrupt_eq]
    rfl

/-- Settles O54, by whether the mnemonic writes D. -/
theorem decimalFlagReachesOnlyPushes : Obligations.DecimalFlagReachesOnlyPushes := by
  intro i d s hphp hbrk
  obtain ⟨base, hrun⟩ := exec_eq_run i
  rw [hrun, hrun]
  split
  case isTrue hd => exact run_withD_of_writer hd i.operand d base s
  case isFalse hd => exact run_withD (effectOf_ignoresD hphp hbrk hd d i.operand) base s

end Sys2Proof
end

section
/-! PROOFS. The byte of P (10_state.md R58), and the host calls that write no register (R65). -/

namespace Sys2Proof

open Sys2Proof.Machine Sys2Proof.Claims

/-- Settles O16: packing by all values of the seven bits, unpacking by its definition. -/
theorem statusBytePacksSixFlags : Obligations.StatusBytePacksSixFlags := by
  refine ⟨?packs, fun v => rfl⟩
  rintro b ⟨n, v, d, i, z, c⟩
  revert b n v d i z c
  decide

theorem sameRegs_refl (s : State) : sameRegs s s := ⟨rfl, rfl, rfl, rfl, rfl, rfl⟩

/-- Settles O50, call by call. -/
theorem onlyTheStepWritesRegisters : Obligations.OnlyTheStepWritesRegisters := by
  intro c s t hcpu hstep hsession hcall
  obtain ⟨-, hmake⟩ := hostCall_next hcall
  cases c
  case cpuReset | deserialize | loadRom | sessionReset | stateLoad | construct => nomatch hcpu
  case stepOneInstruction => exact absurd rfl hstep
  case sessionStep => exact absurd rfl hsession
  case startEmulation =>
    simp only [makeCall, startEmulation] at hmake
    split at hmake <;> cases hmake
    all_goals exact ⟨sameRegs_refl s, rfl, fun _ => rfl⟩
  case destroy =>
    cases hmake
    exact ⟨sameRegs_refl s, rfl, fun h => absurd rfl h⟩
  all_goals
    cases hmake
    exact ⟨sameRegs_refl s, rfl, fun _ => rfl⟩

end Sys2Proof
end

section
/-! PROOFS. Save states (60_exceptions.md R571 to R574, 10_state.md R67): a memory is its dump read back, the blocks of a save read back
or end short, and so a saved state loads or does not. -/

namespace Sys2Proof.Machine

open Sys2Proof.Claims

/-- A cell of a memory whose addresses rise is what its address reads as. -/
theorem Memory.read_of_mem {m : Memory} (hm : m.Pairwise fun c d => c.1 < d.1) {c : Host.Cell} (hc : c ∈ m) :
    Memory.read m c.1 = c.2 := by
  induction m with
  | nil => nomatch hc
  | cons d m ih =>
    obtain ⟨hd, hrest⟩ := List.pairwise_cons.mp hm
    rw [Memory.read_cons]
    rcases List.mem_cons.mp hc with rfl | hc
    · rw [if_pos rfl]
    · rw [if_neg (Nat.ne_of_lt (hd c hc)), ih hrest hc]

/-- An address that reads as anything else than an unlisted one has a cell. -/
theorem Memory.mem_of_read {m : Memory} {a : Nat} (h : Memory.read m a ≠ Memory.unlisted) : (a, Memory.read m a) ∈ m := by
  induction m with
  | nil => exact absurd rfl h
  | cons c m ih =>
    rw [Memory.read_cons] at h ⊢
    split
    case isTrue hc => exact List.mem_cons.mpr (.inl (by rw [← hc]))
    case isFalse hc =>
      rw [if_neg hc] at h
      exact List.mem_cons_of_mem _ (ih h)

/-- The cells of a canonical memory, told from its content. -/
theorem Memory.mem_iff_of_wf {size : Nat} {m : Memory} (hm : Memory.wf size m = true) (c : Host.Cell) :
    c ∈ m ↔ c.1 < size ∧ c.2 ≠ Memory.unlisted ∧ Memory.read m c.1 = c.2 := by
  obtain ⟨hrising, hcells⟩ := (Memory.wf_iff size m).mp hm
  constructor
  · intro hc
    exact ⟨(hcells c hc).1, (hcells c hc).2, Memory.read_of_mem hrising hc⟩
  · rintro ⟨-, hlisted, hread⟩
    have hmem := Memory.mem_of_read (m := m) (a := c.1) (hread ▸ hlisted)
    rwa [hread] at hmem

/-- Canonical memories of one size with the same content are the same cells. -/
theorem Memory.ext_of_wf {size : Nat} {m n : Memory} (hm : Memory.wf size m = true) (hn : Memory.wf size n = true)
    (h : ∀ a < size, Memory.read m a = Memory.read n a) : m = n := by
  have hasymm : Std.Antisymm fun c d : Host.Cell => c.1 < d.1 := ⟨fun c d hcd hdc => absurd hcd (Nat.lt_asymm hdc)⟩
  have hirrefl : Std.Irrefl fun c d : Host.Cell => c.1 < d.1 := ⟨fun c => Nat.lt_irrefl c.1⟩
  refine List.Pairwise.eq_of_mem_iff ((Memory.wf_iff size m).mp hm).1 ((Memory.wf_iff size n).mp hn).1 fun c => ?_
  rw [Memory.mem_iff_of_wf hm, Memory.mem_iff_of_wf hn]
  exact and_congr_right fun hc => by rw [h c.1 hc]

/-- A memory in form is its dump read back (20_memory.md R113). -/
theorem Memory.ofBytes_toBytes {size : Nat} {m : Memory} (hm : Memory.wf size m = true) :
    Memory.ofBytes size (Memory.toBytes size m) = m := by
  refine Memory.ext_of_wf (Memory.wf_ofBytes _ _) hm fun a ha => ?_
  rw [Memory.read_ofBytes, if_pos ha, Memory.getD_toBytes _ _ _ ha]

/-- The three bits of the CPU block's last byte (R67). -/
theorem hiddenBits_getLsbD (nmi irq halted : Bool) :
    let b := bit nmi + (bit irq <<< 1) + (bit halted <<< 2)
    b.getLsbD 0 = nmi ∧ b.getLsbD 1 = irq ∧ b.getLsbD 2 = halted := by
  revert nmi irq halted
  decide

theorem hiddenBits_eq_ofNat (nmi irq halted : Bool) :
    bit nmi + (bit irq <<< 1) + (bit halted <<< 2) = BitVec.ofNat 8 (nmi.toNat + 2 * irq.toNat + 4 * halted.toNat) := by
  revert nmi irq halted
  decide

/-- The CPU block read back (R67). -/
theorem cpuDeserialize_cpuSerialize (s u : State) :
    cpuDeserialize (cpuSerialize s) u =
      some
        { u with
          a := s.a
          x := s.x
          y := s.y
          sp := s.sp
          pc := s.pc
          p := s.p
          nmiPending := s.nmiPending
          irqPending := s.irqPending
          halted := s.halted } := by
  obtain ⟨hnmi, hirq, hhalted⟩ := hiddenBits_getLsbD s.nmiPending s.irqPending s.halted
  simp only [cpuSerialize, cpuDeserialize, word_hi8_lo8, unpackP_packP, hnmi, hirq, hhalted]

/-- A block of a buffer that is cut: truncated where the cut is within it, else read back. -/
theorem takeBytes_take (bytes : List Byte) (rest : List SaveItem) {n : Nat} (h : bytes.length = n) (k : Nat) :
    takeBytes n ((bytes.map SaveItem.byte ++ rest).take k) =
      if k < n then .error .saveTruncated else .ok (bytes, rest.take (k - n)) := by
  subst h
  split
  case isTrue hk =>
    rw [List.take_append_of_le_length (by simpa using hk.le), ← List.map_take]
    exact takeBytes_short _ (by rwa [List.length_take, min_eq_left hk.le])
  case isFalse hk =>
    rw [List.take_append, List.length_map, List.take_of_length_le (by simpa using hk)]
    exact takeBytes_append _ _ rfl

/-- A block that stands whole at the head of a buffer goes on to the next. -/
theorem takeBytes_append_bind {α : Type} (bytes : List Byte) (rest : List SaveItem) {n : Nat} (h : bytes.length = n)
    (next : List Byte × List SaveItem → Except Fault α) :
    (takeBytes n (bytes.map SaveItem.byte ++ rest) >>= next) = next (bytes, rest) := by
  rw [takeBytes_append _ _ h]
  rfl

/-- A block of a buffer that is cut ends the read, or goes on to what the cut leaves of the next. -/
theorem takeBytes_take_bind {α : Type} (bytes : List Byte) (rest : List SaveItem) {n : Nat} (h : bytes.length = n) (k : Nat)
    (next : List Byte × List SaveItem → Except Fault α) :
    (takeBytes n ((bytes.map SaveItem.byte ++ rest).take k) >>= next) =
      if k < n then .error .saveTruncated else next (bytes, rest.take (k - n)) := by
  rw [takeBytes_take _ _ h]
  split <;> rfl

/-- The items of a save after its version byte, block by block (R571). -/
def SavedBlocks.items (k : SavedBlocks) : List SaveItem :=
  k.ram.map .byte ++ (k.vram.map .byte ++ (k.oam.map .byte ++ (k.cpu.map .byte ++ [.mapper k.mapper, .ppu k.ppu])))

section blocks
variable {k : SavedBlocks} (hram : k.ram.length = 0x800) (hvram : k.vram.length = 0x8000) (hoam : k.oam.length = 0x100)
  (hcpu : k.cpu.length = 8)
include hram hvram hoam hcpu

/-- Blocks of full length read back, where the PPU is one a session of the region can have. -/
theorem takeBlocks_items {r : Region} (h : goodPpu r k.ppu = true) : takeBlocks r k.items = .ok k := by
  unfold takeBlocks SavedBlocks.items
  rw [takeBytes_append_bind _ _ hram, takeBytes_append_bind _ _ hvram, takeBytes_append_bind _ _ hoam,
    takeBytes_append_bind _ _ hcpu]
  simp only [takeMapper, takePpu, h, bind, Except.bind, pure, Except.pure, if_true]

/-- Blocks cut short are truncated, wherever the cut is (I11). -/
theorem takeBlocks_take (r : Region) {n : Nat} (h : n < k.items.length) :
    takeBlocks r (k.items.take n) = .error .saveTruncated := by
  have hlength : k.items.length = 0x800 + 0x8000 + 0x100 + 8 + 2 := by
    simp [SavedBlocks.items, hram, hvram, hoam, hcpu]
  rw [hlength] at h
  unfold takeBlocks SavedBlocks.items
  rw [takeBytes_take_bind _ _ hram, takeBytes_take_bind _ _ hvram, takeBytes_take_bind _ _ hoam,
    takeBytes_take_bind _ _ hcpu]
  by_cases h1 : n < 0x800
  · rw [if_pos h1]
  rw [if_neg h1]
  by_cases h2 : n - 0x800 < 0x8000
  · rw [if_pos h2]
  rw [if_neg h2]
  by_cases h3 : n - 0x800 - 0x8000 < 0x100
  · rw [if_pos h3]
  rw [if_neg h3]
  by_cases h4 : n - 0x800 - 0x8000 - 0x100 < 8
  · rw [if_pos h4]
  rw [if_neg h4]
  obtain hlast | hlast : n - 0x800 - 0x8000 - 0x100 - 8 = 0 ∨ n - 0x800 - 0x8000 - 0x100 - 8 = 1 := by omega
  · rw [hlast]
    rfl
  · rw [hlast]
    rfl

end blocks

/-- The blocks of a save. -/
def savedBlocks (s : State) : SavedBlocks :=
  ⟨Memory.toBytes 0x800 s.ram, Memory.toBytes 0x8000 s.dev.vram, Memory.toBytes 0x100 s.dev.oam, cpuSerialize s,
    s.dev.mapper, s.dev.ppu⟩

theorem stateSave_eq (s : State) : stateSave s = ⟨.byte saveVersion :: (savedBlocks s).items, s.dev.cart⟩ := by
  simp only [stateSave, saveBytes, savedBlocks, SavedBlocks.items, List.map_cons, List.map_append, List.append_assoc,
    List.cons_append]

theorem takeBlocks_savedBlocks {r : Region} {s : State} (h : goodPpu r s.dev.ppu = true) :
    takeBlocks r (savedBlocks s).items = .ok (savedBlocks s) :=
  takeBlocks_items (Memory.length_toBytes _ _) (Memory.length_toBytes _ _) (Memory.length_toBytes _ _) rfl h

theorem takeBlocks_take_savedBlocks (r : Region) (s : State) {n : Nat} (h : n < (savedBlocks s).items.length) :
    takeBlocks r ((savedBlocks s).items.take n) = .error .saveTruncated :=
  takeBlocks_take (Memory.length_toBytes _ _) (Memory.length_toBytes _ _) (Memory.length_toBytes _ _) rfl r h

section paused
variable {u : State} (hrun : u.running = false) (hphase : u.session.phase ≠ .destroyed)
include hrun hphase

theorem runLoopPaused_of_stopped : runLoopPaused u = true := by
  simp [runLoopPaused, hrun, hphase]

/-- Another version byte stops the load (R571). -/
theorem stateLoad_badVersion {b : Byte} (hb : b ≠ saveVersion) (items : List SaveItem) (origin : Option Cartridge) :
    stateLoad ⟨.byte b :: items, origin⟩ u = .fault .saveBadVersion := by
  simp [stateLoad, runLoopPaused_of_stopped hrun hphase, takeBytes, hb]

/-- A load of blocks that do not read back stops as they do. -/
theorem stateLoad_of_error {items : List SaveItem} {f : Fault} (h : takeBlocks u.session.region items = .error f) :
    stateLoad ⟨.byte saveVersion :: items, u.dev.cart⟩ u = .fault f := by
  simp [stateLoad, runLoopPaused_of_stopped hrun hphase, takeBytes, h]

/-- A load of blocks that read back replaces every block. -/
theorem stateLoad_of_ok {items : List SaveItem} {k : SavedBlocks} {t : State}
    (h : takeBlocks u.session.region items = .ok k) (hcpu : cpuDeserialize k.cpu u = some t) :
    stateLoad ⟨.byte saveVersion :: items, u.dev.cart⟩ u = .next (replaceBlocks k t) := by
  simp [stateLoad, runLoopPaused_of_stopped hrun hphase, takeBytes, h, hcpu]

/-- A load of no items stops for want of a version byte (I11). -/
theorem stateLoad_empty (origin : Option Cartridge) : stateLoad ⟨[], origin⟩ u = .fault .saveTruncated := by
  simp [stateLoad, runLoopPaused_of_stopped hrun hphase, takeBytes]

/-- A saved state cut short anywhere stops the load (I11). -/
theorem stateLoad_take (s : State) {n : Nat} (hn : n < (stateSave s).items.length) :
    stateLoad ⟨(stateSave s).items.take n, u.dev.cart⟩ u = .fault .saveTruncated := by
  rw [stateSave_eq] at hn ⊢
  cases n with
  | zero => exact stateLoad_empty hrun hphase _
  | succ n =>
    rw [List.take_succ_cons]
    exact stateLoad_of_error hrun hphase (takeBlocks_take_savedBlocks _ s (Nat.lt_of_succ_lt_succ hn))

/-- A state of another ROM is refused (R574). -/
theorem stateLoad_foreign {origin : Option Cartridge} (hcart : u.dev.cart ≠ origin) (items : List SaveItem) :
    stateLoad ⟨.byte saveVersion :: items, origin⟩ u = .refused .foreignState := by
  simp [stateLoad, runLoopPaused_of_stopped hrun hphase, takeBytes, Ne.symm hcart]

/-- A CPU block of another ROM is refused (R573, R574). -/
theorem cpuLoad_foreign {origin : Option Cartridge} (hcart : u.dev.cart ≠ origin) (block : List Byte) :
    cpuLoad block origin u = .refused .foreignState := by
  simp [cpuLoad, runLoopPaused_of_stopped hrun hphase, Ne.symm hcart]

/-- A saved state loads back: the CPU, the three memories, the mapper and the PPU are the saved ones, all else the session's. -/
theorem stateLoad_stateSave {s : State} (hs : s.Inv) (hregion : u.session.region = s.session.region)
    (hcart : u.dev.cart = s.dev.cart) :
    stateLoad (stateSave s) u =
      .next
        { u with
          a := s.a
          x := s.x
          y := s.y
          sp := s.sp
          pc := s.pc
          p := s.p
          nmiPending := s.nmiPending
          irqPending := s.irqPending
          halted := s.halted
          ram := s.ram
          dev :=
            { recordEvent u.dev .restored with
              vram := s.dev.vram
              oam := s.dev.oam
              mapper := s.dev.mapper
              ppu := s.dev.ppu } } := by
  obtain ⟨hram, hdev⟩ := hs
  obtain ⟨hvram, hoam, hframe, hsprites, -⟩ := (Devices.wf_iff _ _).mp hdev
  have hppu : goodPpu u.session.region s.dev.ppu = true := by simp [goodPpu, hregion, hframe, hsprites]
  rw [stateSave_eq, ← hcart, stateLoad_of_ok hrun hphase (takeBlocks_savedBlocks hppu) (cpuDeserialize_cpuSerialize s u)]
  simp only [savedBlocks, replaceBlocks, Memory.ofBytes_toBytes hram,
    Memory.ofBytes_toBytes hvram, Memory.ofBytes_toBytes hoam]

end paused

/-- Settles O56: the block's bytes, the load of what was saved, and each way a load fails. -/
theorem savedStatesLoadBack : Obligations.SavedStatesLoadBack := by
  refine ⟨fun s => ?block, fun s u hs hrun hphase hregion hcart => ?load, fun u hrun hphase => ⟨?version, ?cut, ?foreign⟩⟩
  case block => rw [← hiddenBits_eq_ofNat]; rfl
  case load =>
    exact ⟨_, stateLoad_stateSave hrun hphase hs hregion hcart, ⟨rfl, rfl, rfl, rfl, rfl, rfl⟩, rfl, rfl, rfl, rfl, rfl, rfl,
      rfl, rfl, rfl, rfl, rfl⟩
  case version => exact fun b items origin hb => stateLoad_badVersion hrun hphase hb items origin
  case cut =>
    intro s n hcart hn
    rw [← hcart]
    exact stateLoad_take hrun hphase s hn
  case foreign =>
    intro s block hcart
    rw [stateSave_eq]
    exact ⟨stateLoad_foreign hrun hphase hcart _, cpuLoad_foreign hrun hphase hcart block⟩

end Sys2Proof.Machine
end

section
/-! PROOFS. The invariant (20_memory.md R101, R102, R111; 60_exceptions.md R550, R552, R569): memory accesses keep it by their laws,
and a mnemonic's own part makes no bus access and writes RAM by pushes alone. -/

namespace Sys2Proof

open Sys2Proof.Machine Sys2Proof.Claims

/-- Of memory, devices and session, at most RAM changes, and stays in its canonical form. -/
structure OffBus (s t : State) : Prop where
  dev : t.dev = s.dev
  session : t.session = s.session
  ram : Memory.wf 0x800 s.ram = true → Memory.wf 0x800 t.ram = true

/-- A change of registers, flags, hidden bits and count makes no access. -/
theorem OffBus.of_same {s t : State} (hdev : t.dev = s.dev) (hsession : t.session = s.session) (hram : t.ram = s.ram) :
    OffBus s t := ⟨hdev, hsession, fun h => hram ▸ h⟩

theorem OffBus.refl (s : State) : OffBus s s := .of_same rfl rfl rfl

theorem OffBus.trans {s t u : State} (h : OffBus s t) (k : OffBus t u) : OffBus s u :=
  ⟨k.dev.trans h.dev, k.session.trans h.session, fun hram => k.ram (h.ram hram)⟩

theorem OffBus.inv {s t : State} (h : OffBus s t) (hs : s.Inv) : t.Inv := by
  obtain ⟨hram, hdev⟩ := hs
  refine ⟨h.ram hram, ?_⟩
  rw [h.dev, h.session]
  exact hdev

theorem push_offBus (v : Byte) (s : State) : OffBus s (push v s) := by
  rw [push_eq]
  exact ⟨rfl, rfl, fun hram => Memory.wf_write hram _ v (by omega)⟩

theorem pushWord_offBus (w : Word) (s : State) : OffBus s (pushWord w s) := (push_offBus _ _).trans (push_offBus _ _)

/-- The own part of every mnemonic but BRK, which reads its vector, makes no bus access. -/
theorem effectOf_offBus {m : Mnemonic} (hm : m ≠ .brk) (o : Operand) : (effectOf m o).Within OffBus := by
  cases m
  case brk => exact absurd rfl hm
  case lda | ldx | ldy | lax | las | adc | sbc | cmp | cpx | cpy | and | ora | eor | bit | nop | anc | alr | arr | axs =>
    cases o with
    | immediate b => exact fun v s => .of_same rfl rfl rfl
    | memory m => exact fun v s => .of_same rfl rfl rfl
    | _ => exact .refl
  case sta | stx | sty | sax =>
    cases o with
    | memory m => trivial
    | _ => exact .refl
  case asl | lsr | rol | ror | inc | dec | slo | rla | sre | rra | dcp | isc =>
    cases o with
    | memory m => exact ⟨fun v s => .of_same rfl rfl rfl, fun r s => .of_same rfl rfl rfl⟩
    | _ => exact fun s => .of_same rfl rfl rfl
  case bpl | bmi | bvc | bvs | bcc | bcs | bne | beq =>
    cases o with
    | relative b => exact fun s pc => .of_same rfl rfl rfl
    | _ => exact .refl
  case jmp =>
    cases o with
    | memory m => exact fun s pc => .of_same rfl rfl rfl
    | _ => exact .refl
  case jsr =>
    cases o with
    | memory m =>
      cases m with
      | abs w => exact fun s => (pushWord_offBus _ s).trans (.of_same rfl rfl rfl)
      | _ => exact .refl
    | _ => exact .refl
  case pha | php => exact fun s => push_offBus _ s
  case pla | plp | rti | rts =>
    intro s
    simp only [pull_eq, pullWord_eq, returnFromInterrupt_eq]
    exact .of_same rfl rfl rfl
  all_goals exact fun s => .of_same rfl rfl rfl

/-- What stays within a relation stays within a wider one. -/
theorem Effect.Within.mono {R Q : State → State → Prop} (hRQ : ∀ s t, R s t → Q s t) {e : Effect} (he : e.Within R) :
    e.Within Q := by
  cases e with
  | implied f => exact fun s => hRQ _ _ (he s)
  | read o f => exact fun v s => hRQ _ _ (he v s)
  | write m v => trivial
  | modify m f g =>
    obtain ⟨hf, hg⟩ := he
    exact ⟨fun v s => hRQ _ _ (hf v s), fun r s => hRQ _ _ (hg r s)⟩
  | branch cond b => exact fun s pc => hRQ _ _ (he s pc)
  | jump m => exact fun s pc => hRQ _ _ (he s pc)
  | call w => exact fun s => hRQ _ _ (he s)
  | halt => exact fun s => hRQ _ _ (he s)

theorem inv_isFrame : IsFrame fun s t => s.Inv → t.Inv where
  refl _ := id
  trans h k hs := k (h hs)
  memRead a _ := memRead_inv a
  memWrite a v _ := memWrite_inv a v
  withCycles n _ := withCycles_inv n

theorem effectOf_inv (m : Mnemonic) (o : Operand) : (effectOf m o).Within fun s t => s.Inv → t.Inv := by
  by_cases hm : m = .brk
  · subst hm
    exact fun s => enterInterrupt_inv _ _ _
  · exact (effectOf_offBus hm o).mono fun _ _ => OffBus.inv

theorem exec_inv {i : Instr} {s t : State} (hs : s.Inv) (h : exec i s = .next t) : t.Inv := by
  obtain ⟨u, hu, hkept⟩ := inv_isFrame.exec i s (effectOf_inv i.mnemonic i.operand)
  have hstart : (i.effect.start s).Inv := by
    rw [effect_start]
    split
    · exact hs
    · exact advancePc_inv _ hs
  cases hu.symm.trans h
  exact hkept hstart

theorem addEntry_next {entry : Nat} {r : Result} {t : State} (h : addEntry entry r = .next t) :
    ∃ u, r = .next u ∧ t = { u with cycles := u.cycles.map (entry + ·) } := by
  cases r with
  | next u =>
    cases h
    exact ⟨u, rfl, rfl⟩
  | fault f => nomatch h
  | refused r => nomatch h

/-- A step that has a next state is the poll, the fetch and the instruction, whose count gets the entry's cycles (30_encoding.md
R160, 70_reset_and_hazards.md R620). -/
theorem step_next {s t : State} (h : step s = .next t) :
    isRunning s = true ∧ ∃ u, exec (fetch (poll s).2).1 (fetch (poll s).2).2 = .next u ∧
      t = { u with cycles := u.cycles.map ((poll s).1 + ·) } := by
  unfold step at h
  split at h
  · exact ⟨‹_›, addEntry_next h⟩
  · nomatch h

/-- Settles O51: the poll, the fetch and the instruction each keep the invariant, and the count is no part of it. -/
theorem stepKeepsTheMachineInForm : Obligations.StepKeepsTheMachineInForm := by
  intro s t hs h
  obtain ⟨-, u, hexec, rfl⟩ := step_next h
  have hu : u.Inv := exec_inv (fetch_inv (poll_inv hs)) hexec
  exact Inv_congr hu rfl rfl rfl

theorem initial_wf (r : Region) : Devices.wf r Devices.initial = true :=
  (Devices.wf_iff r _).mpr ⟨rfl, rfl, frameStart_inFrame r, Nat.zero_le _, nofun⟩

/-- Settles O52: its memories list nothing, and its PPU stands at the frame's start. -/
theorem resetStateIsInForm : Obligations.ResetStateIsInForm := ⟨rfl, initial_wf .ntsc⟩

end Sys2Proof
end

section
/-! PROOFS. The memories by address (20_memory.md R103, R111, R113, R117, R126, R127): RAM and its mirrors, the canonical form, the
nametables, the stack page. -/

namespace Sys2Proof.Machine

open Sys2Proof.Claims

/-- A RAM byte after a write in the RAM range (R111). -/
theorem peek_memWrite_ram {a b : Word} (ha : isRam a = true) (hb : isRam b = true) (v : Byte) (s : State) :
    peek b (memWrite a v s) = if ramIndex b = ramIndex a then v else peek b s := by
  rw [memWrite_ram ha, peek_ram hb, peek_ram hb, Memory.read_write]

/-- Settles O8, by whether the address is in the RAM range. -/
theorem memoryInterfaceSplitsRamFromBus : Obligations.MemoryInterfaceSplitsRamFromBus := by
  intro a v s
  refine ⟨fun h => ?ram, fun h => ?bus⟩
  case ram =>
    have ha : isRam a = true := (isRam_iff a).mpr h
    exact ⟨memRead_ram ha s, memWrite_ram ha v s, by rw [peek_memWrite_ram ha ha, if_pos rfl]⟩
  case bus =>
    have ha : isRam a = false := by simpa [isRam] using h
    exact ⟨memRead_bus ha s, memWrite_bus ha v s⟩

/-- The four mirrors of a RAM byte stay in the RAM range (R111). -/
theorem mirror_toNat {a : Word} (ha : a.toNat < 0x800) {j : Nat} (hj : j < 4) :
    (a + BitVec.ofNat 16 (0x800 * j)).toNat = a.toNat + 0x800 * j := by
  bv_omega

theorem isRam_mirror {a : Word} (ha : a.toNat < 0x800) {j : Nat} (hj : j < 4) :
    isRam (a + BitVec.ofNat 16 (0x800 * j)) = true := by
  rw [isRam_iff, mirror_toNat ha hj]
  omega

theorem ramIndex_mirror {a : Word} (ha : a.toNat < 0x800) {j : Nat} (hj : j < 4) :
    ramIndex (a + BitVec.ofNat 16 (0x800 * j)) = a.toNat := by
  rw [ramIndex, mirror_toNat ha hj]
  omega

/-- Settles O9: the mirrors are in the RAM range and name one physical byte. -/
theorem ramMirrorsNameOneByte : Obligations.RamMirrorsNameOneByte := by
  intro a b v s ha hb j hj k hk
  have hwrite : isRam (a + BitVec.ofNat 16 (0x800 * k)) = true := isRam_mirror ha hk
  refine ⟨?same, fun hne => ?other⟩
  case same => rw [peek_memWrite_ram hwrite (isRam_mirror ha hj), ramIndex_mirror ha hj, ramIndex_mirror ha hk, if_pos rfl]
  case other => rw [peek_memWrite_ram hwrite ((isRam_iff b).mpr hb), ramIndex_mirror ha hk, ramIndex, if_neg hne]

/-- Settles O10, by the extensionality of the canonical form. -/
theorem equalMemoriesAreEqualData : Obligations.EqualMemoriesAreEqualData :=
  ⟨fun _ _ _ hm hk h => Memory.ext_of_wf hm hk fun a _ => h a, fun _ _ => Memory.ofBytes_toBytes⟩

/-- The cell of an offset in one of the four nametables (R127). -/
theorem vramIndex_nametable (m : Mirroring) {t k : Nat} (ht : t < 4) (hk : k < 0x400) :
    vramIndex m (0x2000 + 0x400 * t + k) = 0x2000 + 0x400 * physicalTable m t + k := by
  have haddr : (0x2000 + 0x400 * t + k) % 0x8000 = 0x2000 + 0x400 * t + k := by omega
  have htable : (0x2000 + 0x400 * t + k - 0x2000) / 0x400 = t := by omega
  have hoffset : (0x2000 + 0x400 * t + k - 0x2000) % 0x400 = k := by omega
  simp only [vramIndex, haddr, htable, hoffset]
  rw [if_pos (by omega)]

/-- Two physical tables share no cell (R127). -/
theorem vramIndex_nametable_ne (m : Mirroring) {t u j k : Nat} (ht : t < 4) (hu : u < 4) (hj : j < 0x400) (hk : k < 0x400)
    (h : physicalTable m t ≠ physicalTable m u) :
    vramIndex m (0x2000 + 0x400 * t + k) ≠ vramIndex m (0x2000 + 0x400 * u + j) := by
  rw [vramIndex_nametable m ht hk, vramIndex_nametable m hu hj]
  omega

/-- Nametables of one physical table show the same cells (R127). -/
theorem vramIndex_nametable_congr (m : Mirroring) {t u k : Nat} (ht : t < 4) (hu : u < 4) (hk : k < 0x400)
    (h : physicalTable m t = physicalTable m u) :
    vramIndex m (0x2000 + 0x400 * t + k) = vramIndex m (0x2000 + 0x400 * u + k) := by
  rw [vramIndex_nametable m ht hk, vramIndex_nametable m hu hk, h]

/-- Settles O13, mode by mode: which tables are one, and which are two. -/
theorem mirroringModesShareTables : Obligations.MirroringModesShareTables := by
  intro k hk j hj
  have same (m : Mirroring) (t u : Fin 4) := vramIndex_nametable_congr m t.isLt u.isLt hk
  have apart (m : Mirroring) (t u : Fin 4) := vramIndex_nametable_ne m t.isLt u.isLt hj hk
  refine ⟨⟨?_, ?_, ?_⟩, ⟨?_, ?_, ?_⟩, fun t ht => ?_, fun t ht u hu htu => ?_⟩
  · exact same .horizontal 0 1 rfl
  · exact same .horizontal 2 3 rfl
  · exact apart .horizontal 0 2 (by decide)
  · exact same .vertical 0 2 rfl
  · exact same .vertical 1 3 rfl
  · exact apart .vertical 0 1 (by decide)
  · exact same .singleScreen ⟨t, ht⟩ 0 rfl
  · exact apart .fourScreen ⟨t, ht⟩ ⟨u, hu⟩ htu

/-- Settles O14: a push and a pull as states, and the wrap at both ends of the page. -/
theorem stackGrowsDownInPageOne : Obligations.StackGrowsDownInPageOne := by
  intro v s
  refine ⟨⟨Memory.write s.ram (0x100 + s.sp.toNat) v, ?push, ?same, ?other⟩, ?pull, fun hsp => ?low, fun hsp => ?high⟩
  case push =>
    have hdown : s.sp - 1 = BitVec.ofNat 8 ((s.sp.toNat + 255) % 256) := by bv_omega
    rw [push_eq, hdown]
  case same => exact Memory.read_write_same _ _ v
  case other => exact fun k hk => Memory.read_write_other _ _ k v hk
  case pull =>
    have hup : s.sp + 1 = BitVec.ofNat 8 ((s.sp.toNat + 1) % 256) := by bv_omega
    have hslot : (s.sp + 1).toNat = (s.sp.toNat + 1) % 256 := BitVec.toNat_add s.sp 1
    rw [pull_eq, hslot, hup]
  case low =>
    have hzero : (0x0100 : Word) = stackAddr 0x00 := rfl
    rw [push_eq, hsp, hzero, peek_ram (isRam_stackAddr _), ramIndex_stackAddr]
    exact ⟨Memory.read_write_same _ _ v, rfl⟩
  case high =>
    rw [pull_eq, hsp, peek_ram (by decide)]
    exact ⟨rfl, rfl⟩

end Sys2Proof.Machine
end

section
/-! PROOFS. The accesses of an instruction as bus events (20_memory.md R107, 30_encoding.md R183, R184): with no cartridge each access
at a device address is one event, and a mnemonic's own part makes none. -/

namespace Sys2Proof

open Sys2Proof.Machine Sys2Proof.Claims

theorem memRead_advancePc (a : Word) (n : Nat) (s : State) :
    memRead a (advancePc n s) = ((memRead a s).1, advancePc n (memRead a s).2) := by
  unfold memRead
  split <;> rfl

/-- No mode's address depends on PC. -/
theorem effAddr_advancePc (m : MemOperand) (n : Nat) (s : State) :
    effAddr m (advancePc n s) = { effAddr m s with state := advancePc n (effAddr m s).state } := by
  cases m with
  | ind w => simp only [effAddr, memRead_advancePc]
  | indx b => simp [zpPointer]
  | indy b => simp [zpPointer]
  | _ => rfl

@[simp] theorem memRead_cart (a : Word) (s : State) : (memRead a s).2.dev.cart = s.dev.cart :=
  (memRead_restKept a s).dev.cart

section access
variable {m : MemOperand} (hm : m.mode ≠ .ind) (base : Nat) {s : State} (hcart : s.dev.cart = none)
include hm hcart

/-- A read class makes one read of its effective address (R183). -/
theorem read_events {f : Byte → State → State} (hf : (Effect.read (.mem m) f).Within OffBus) :
    ∃ t, (Effect.read (.mem m) f).run base s = .next t ∧
      t.dev.events =
        if (effAddr m s).addr.toNat < 0x2000 then s.dev.events else .read (effAddr m s).addr :: s.dev.events := by
  refine ⟨_, rfl, ?_⟩
  rw [withCycles_dev, (hf _ _).dev]
  simp only [readSource, effAddr_advancePc, effAddr_state hm]
  exact memRead_events _ hcart

/-- A write class makes one write of its effective address and no read (R183). -/
theorem write_events (v : State → Byte) :
    ∃ t, (Effect.write m v).run base s = .next t ∧
      t.dev.events =
        if (effAddr m s).addr.toNat < 0x2000 then s.dev.events
        else .write (effAddr m s).addr (v (advancePc (memLength m) s)) :: s.dev.events := by
  refine ⟨_, rfl, ?_⟩
  simp only [withCycles_dev, effAddr_advancePc, effAddr_state hm]
  exact memWrite_events _ _ hcart

/-- A read-modify-write makes one read of its effective address and then one write of the modified byte (R183). -/
theorem modify_events {f : Byte → Flags → Byte × Flags} {g : Byte → State → State}
    (hg : (Effect.modify m f g).Within OffBus) :
    ∃ t, (Effect.modify m f g).run base s = .next t ∧
      t.dev.events =
        if (effAddr m s).addr.toNat < 0x2000 then s.dev.events
        else .write (effAddr m s).addr (f (peek (effAddr m s).addr s) s.p).1 :: .read (effAddr m s).addr :: s.dev.events := by
  refine ⟨_, rfl, ?_⟩
  rw [withCycles_dev, (hg.2 _ _).dev]
  simp only [effAddr_advancePc, effAddr_state hm, memRead_advancePc]
  rw [memWrite_events _ _ (by simpa using hcart)]
  split
  case isTrue hlow => exact (memRead_events _ hcart).trans (if_pos hlow)
  case isFalse hhigh =>
    have hread := (memRead_events (effAddr m s).addr hcart).trans (if_neg hhigh)
    simp [peek, hread]

end access

/-- The effect reads, writes or jumps through an effective address. -/
def Effect.atAddress : Effect → Bool
  | .read (.mem _) _ | .write _ _ | .modify _ _ _ | .jump _ => true
  | .read (.imm _) _ | .implied _ | .branch _ _ | .call _ | .halt => false

theorem effectOf_atAddress {o : Operand} (ho : ∀ m, o ≠ .memory m) (mn : Mnemonic) : (effectOf mn o).atAddress = false := by
  cases o with
  | memory m => exact absurd rfl (ho m)
  | _ => cases mn <;> rfl

/-- An effect with no effective address leaves every device as it is. -/
theorem run_dev {e : Effect} (ha : e.atAddress = false) (he : e.Within OffBus) (base : Nat) (s : State) :
    ∃ t, e.run base s = .next t ∧ t.dev = s.dev := by
  cases e with
  | implied f => exact ⟨_, rfl, (he _).dev⟩
  | read o f =>
    cases o with
    | imm b => exact ⟨_, rfl, (he _ _).dev⟩
    | mem m => nomatch ha
  | branch cond b =>
    simp only [Effect.run, branch]
    split <;> exact ⟨_, rfl, rfl⟩
  | call w => exact ⟨_, rfl, (he _).dev⟩
  | halt => exact ⟨_, rfl, rfl⟩
  | write | modify | jump => nomatch ha

/-- A jump that is not indirect leaves every device as it is (47_control.md R375). -/
theorem jump_dev {m : MemOperand} (hm : m.mode ≠ .ind) (base : Nat) (s : State) :
    ∃ t, (Effect.jump m).run base s = .next t ∧ t.dev = s.dev := by
  refine ⟨_, rfl, ?_⟩
  simp only [withCycles_dev, effAddr_advancePc, effAddr_state hm, advancePc_dev]

theorem contains_mnemonic_of_memory {i : Instr} {m : MemOperand} (h : i.operand = .memory m) :
    (readers ++ writers ++ modifiers ++ [Mnemonic.jmp, Mnemonic.jsr]).contains i.mnemonic = true := by
  cases i <;> cases h <;> rfl

/-- Each access of an instruction with an operand in memory, by its class (R183). -/
theorem exec_memory_events {i : Instr} {m : MemOperand} {s : State} (hcart : s.dev.cart = none) (ho : i.operand = .memory m)
    (hm : m.mode ≠ .ind) : ∃ t, exec i s = .next t ∧
      let ea := (effAddr m s).addr
      (ea.toNat < 0x2000 → t.dev.events = s.dev.events) ∧
      (0x2000 ≤ ea.toNat →
        (i.mnemonic ∈ readers → t.dev.events = .read ea :: s.dev.events) ∧
        (i.mnemonic ∈ writers → ∃ v, t.dev.events = .write ea v :: s.dev.events) ∧
        (i.mnemonic ∈ modifiers → ∃ v, t.dev.events = .write ea v :: .read ea :: s.dev.events) ∧
        (i.mnemonic = .jmp ∨ i.mnemonic = .jsr → t.dev.events = s.dev.events)) := by
  obtain ⟨base, hrun⟩ := exec_eq_run i
  have hclass := contains_mnemonic_of_memory ho
  rw [hrun, Instr.effect, ho]
  generalize i.mnemonic = mn at hclass ⊢
  have hown (hbrk : mn ≠ .brk) : (effectOf mn (.memory m)).Within OffBus := effectOf_offBus hbrk _
  cases mn
  case lda | ldx | ldy | adc | sbc | and | ora | eor | cmp | cpx | cpy | bit | nop | lax | las =>
    obtain ⟨t, ht, hevents⟩ := read_events hm base hcart (hown (by decide))
    exact ⟨t, ht, fun hlow => hevents.trans (if_pos hlow),
      fun hhigh => ⟨fun _ => hevents.trans (if_neg hhigh.not_gt), nofun, nofun, nofun⟩⟩
  case sta | stx | sty | sax =>
    obtain ⟨t, ht, hevents⟩ := write_events hm base hcart _
    exact ⟨t, ht, fun hlow => hevents.trans (if_pos hlow),
      fun hhigh => ⟨nofun, fun _ => ⟨_, hevents.trans (if_neg hhigh.not_gt)⟩, nofun, nofun⟩⟩
  case asl | lsr | rol | ror | inc | dec | slo | rla | sre | rra | dcp | isc =>
    obtain ⟨t, ht, hevents⟩ := modify_events hm base hcart (hown (by decide))
    exact ⟨t, ht, fun hlow => hevents.trans (if_pos hlow),
      fun hhigh => ⟨nofun, nofun, fun _ => ⟨_, hevents.trans (if_neg hhigh.not_gt)⟩, nofun⟩⟩
  case jmp =>
    obtain ⟨t, ht, hdev⟩ := jump_dev hm base s
    refine ⟨t, ht, fun _ => by rw [hdev], fun _ => ⟨nofun, nofun, nofun, fun _ => by rw [hdev]⟩⟩
  case jsr =>
    obtain ⟨t, ht, hdev⟩ := run_dev (by cases m <;> rfl) (hown (by decide)) base s
    exact ⟨t, ht, fun _ => by rw [hdev], fun _ => ⟨nofun, nofun, nofun, fun _ => by rw [hdev]⟩⟩
  all_goals exact absurd hclass (by decide)

theorem exec_dev_of_no_memory {i : Instr} (ho : ∀ m, i.operand ≠ .memory m) (hbrk : i.mnemonic ≠ .brk) (s : State) :
    ∃ t, exec i s = .next t ∧ t.dev = s.dev := by
  obtain ⟨base, hrun⟩ := exec_eq_run i
  rw [hrun]
  exact run_dev (effectOf_atAddress ho _) (effectOf_offBus hbrk _) base s

/-- A word read above RAM is two events, the low byte's first (R107, R115). -/
theorem read16_events {a : Word} (ha : 0x2000 ≤ a.toNat) (ha' : 0x2000 ≤ (a + 1).toNat) {s : State}
    (hcart : s.dev.cart = none) : (read16 a s).2.dev.events = .read (a + 1) :: .read a :: s.dev.events := by
  have hlow := (memRead_events a hcart).trans (if_neg ha.not_gt)
  have hhigh := (memRead_events (a + 1) (s := (memRead a s).2) (by simpa using hcart)).trans (if_neg ha'.not_gt)
  exact hhigh.trans (congrArg _ hlow)

/-- BRK reads its vector and nothing else of the devices (48_flags_system.md R409). -/
theorem execBrk_events {s : State} (hcart : s.dev.cart = none) :
    ∃ t, exec .brk s = .next t ∧ t.dev.events = .read 0xFFFF :: .read 0xFFFE :: s.dev.events := by
  refine ⟨_, rfl, ?_⟩
  simp only [withCycles_dev, enterInterrupt_eq]
  exact read16_events (a := irqVector) (by decide) (by decide) hcart

/-- The second byte of an indirect jump's pointer stands in the page of the first (30_encoding.md R178). -/
theorem pointerHigh_toNat (w : Word) : (word (hi8 w) (lo8 w + 1)).toNat = w.toNat / 256 * 256 + (w.toNat + 1) % 256 := by
  simp [BitVec.toNat_add]

/-- An indirect jump reads the two bytes of its pointer, the low one first (R178). -/
theorem execJmpInd_events (w : Word) {s : State} (hcart : s.dev.cart = none) :
    ∃ t, exec (.jmpInd w) s = .next t ∧
      t.dev.events =
        if w.toNat < 0x2000 then s.dev.events else .read (word (hi8 w) (lo8 w + 1)) :: .read w :: s.dev.events := by
  refine ⟨_, rfl, ?_⟩
  have hpage : (word (hi8 w) (lo8 w + 1)).toNat < 0x2000 ↔ w.toNat < 0x2000 := by
    rw [pointerHigh_toNat]
    omega
  have hlow := memRead_events w hcart
  have hhigh := memRead_events (word (hi8 w) (lo8 w + 1)) (s := (memRead w s).2) (by simpa using hcart)
  simp only [effAddr, withCycles_dev, memRead_advancePc, advancePc_dev]
  rw [hhigh, hlow]
  simp only [hpage]
  split <;> rfl

/-- Settles O15: with an operand in memory by its class, without one by its effect, and BRK, STA, INC and JMP indirect in full. -/
theorem deviceAccessesHappenOnceInOrder : Obligations.DeviceAccessesHappenOnceInOrder := by
  refine ⟨fun i m s hcart ho hm => exec_memory_events hcart ho hm, fun i s ho hbrk => ?_, fun w s hcart =>
    ⟨execBrk_events hcart, fun hlow => ?_, fun hhigh => ⟨?sta, ?inc, ?jmp⟩⟩⟩
  · obtain ⟨t, ht, hdev⟩ := exec_dev_of_no_memory ho hbrk s
    exact ⟨t, ht, by rw [hdev]⟩
  · obtain ⟨t, ht, hevents⟩ := execJmpInd_events w hcart
    exact ⟨t, ht, hevents.trans (if_pos hlow)⟩
  case sta =>
    obtain ⟨t, ht, hevents⟩ := write_events (m := .abs w) nofun 4 hcart State.a
    exact ⟨t, ht, hevents.trans (if_neg hhigh.not_gt)⟩
  case inc =>
    obtain ⟨t, ht, hevents⟩ :=
      modify_events (m := .abs w) nofun 6 hcart (effectOf_offBus (m := .inc) nofun (.memory (.abs w)))
    exact ⟨t, ht, hevents.trans (if_neg hhigh.not_gt)⟩
  case jmp =>
    obtain ⟨t, ht, hevents⟩ := execJmpInd_events w hcart
    exact ⟨t, ht, hevents.trans (if_neg hhigh.not_gt)⟩

end Sys2Proof
end

section
/-! PROOFS. The frame of the pushes (20_memory.md R117): PHA, PHP, JSR and BRK write RAM at the bytes they push alone, and only BRK's
reads of its vector reach a device. -/

namespace Sys2Proof

open Sys2Proof.Machine Sys2Proof.Claims

/-- After n pushes: SP is lower by n, every RAM byte but the n from $0100 + SP downward is the same, and the devices are the same where
their history is. -/
structure PushedOnly (n : Nat) (s t : State) : Prop where
  sp : t.sp = s.sp - BitVec.ofNat 8 n
  ram : ∀ k, (∀ j < n, k ≠ 0x100 + (s.sp - BitVec.ofNat 8 j).toNat) → Memory.read t.ram k = Memory.read s.ram k
  quiet : t.dev.events = s.dev.events → t.dev = s.dev

/-- What the bytes pushed leave readable as before. -/
theorem PushedOnly.peek_eq {n : Nat} {s t : State} (h : PushedOnly n s t) {a : Word}
    (ha : a.toNat < 0x2000 ∨ t.dev.events = s.dev.events)
    (hne : ∀ k < n, ramByte a ≠ some (0x100 + (s.sp - BitVec.ofNat 8 k).toNat)) : peek a t = peek a s := by
  by_cases hram : a.toNat < 0x2000
  · have hisRam : isRam a = true := (isRam_iff a).mpr hram
    rw [peek_ram hisRam, peek_ram hisRam]
    refine h.ram _ fun j hj hk => hne j hj ?_
    rw [ramByte, if_pos hram, ← hk, ramIndex]
  · have hisRam : isRam a = false := by simpa [isRam] using hram
    rw [peek_bus hisRam, peek_bus hisRam, h.quiet (ha.resolve_left hram)]

/-- A push after n pushes. -/
theorem PushedOnly.push {n : Nat} {s t : State} (h : PushedOnly n s t) (v : Byte) : PushedOnly (n + 1) s (push v t) := by
  rw [push_eq]
  refine ⟨?_, fun k hk => ?_, h.quiet⟩
  · rw [h.sp]
    bv_omega
  · rw [Memory.read_write_other _ _ _ _ (h.sp ▸ hk n n.lt_succ_self)]
    exact h.ram k fun j hj => hk j (Nat.lt_succ_of_lt hj)

theorem PushedOnly.refl (s : State) : PushedOnly 0 s s := ⟨by simp, fun _ _ => rfl, fun _ => rfl⟩

/-- The instructions that push (R117). -/
theorem pushes_cases {i : Instr} (h : 0 < pushes i) : i = .pha ∨ i = .php ∨ (∃ w, i = .jsr w) ∨ i = .brk := by
  cases i with
  | pha => exact .inl rfl
  | php => exact .inr (.inl rfl)
  | jsr w => exact .inr (.inr (.inl ⟨w, rfl⟩))
  | brk => exact .inr (.inr (.inr rfl))
  | _ => exact absurd h (Nat.lt_irrefl 0)

theorem pushWord_pushedOnly (w : Word) (s : State) : PushedOnly 2 s (pushWord w s) :=
  ((PushedOnly.refl s).push (hi8 w)).push (lo8 w)

theorem entryFrame_pushedOnly (ret : Word) (b : Bool) (s : State) : PushedOnly 3 s (entryFrame ret b s) := by
  have h := (pushWord_pushedOnly ret s).push (packP b s.p)
  rw [pushWord_eq, push_eq] at h
  exact ⟨rfl, h.ram, fun _ => rfl⟩

/-- An interrupt entry pushes three bytes; its vector reads can change the devices alone (60_exceptions.md R519). -/
theorem enterInterrupt_pushedOnly (vector ret : Word) (b : Bool) (s : State) :
    PushedOnly 3 s (enterInterrupt vector ret b s) := by
  have h := entryFrame_pushedOnly ret b s
  obtain ⟨d, hread, -, -, -, hquiet⟩ := read16_state vector (entryFrame ret b s)
  rw [enterInterrupt_eq, hread]
  exact ⟨h.sp, h.ram, hquiet⟩

theorem PushedOnly.setPc {n : Nat} {s t : State} (h : PushedOnly n s t) (pc : Word) : PushedOnly n s { t with pc := pc } :=
  ⟨h.sp, h.ram, h.quiet⟩

/-- PC past the instruction before the pushes and the count after them are no part of the frame. -/
theorem PushedOnly.instruction {n k : Nat} {s t : State} (h : PushedOnly n (advancePc k s) t) (base : Nat) :
    PushedOnly n s (withCycles base t) := ⟨h.sp, h.ram, h.quiet⟩

/-- What each pushing instruction does is its pushes, PC and the count. -/
theorem exec_pushedOnly {i : Instr} (h : 0 < pushes i) (s : State) : ∃ t, exec i s = .next t ∧ PushedOnly (pushes i) s t := by
  obtain rfl | rfl | ⟨w, rfl⟩ | rfl := pushes_cases h
  · exact ⟨_, rfl, ((PushedOnly.refl _).push _).instruction 3⟩
  · exact ⟨_, rfl, ((PushedOnly.refl _).push _).instruction 3⟩
  · exact ⟨_, rfl, ((pushWord_pushedOnly _ _).setPc w).instruction 6⟩
  · exact ⟨_, rfl, (enterInterrupt_pushedOnly _ _ _ _).instruction 7⟩

/-- Settles O41, from the frame of the pushes. -/
theorem pushesChangeOnlyTheirStackBytes : Obligations.PushesChangeOnlyTheirStackBytes := by
  intro i s h
  obtain ⟨t, ht, hpushed⟩ := exec_pushedOnly h s
  exact ⟨t, ht, hpushed.sp, fun a ha hne => hpushed.peek_eq ha hne⟩

end Sys2Proof
end

section
/-! PROOFS. The encoder against the decoder (30_encoding.md R161, R162, R190, R191, R228): the bytes of a decoded instruction are the
opcode byte and the operand bytes the decoder took, and these fix the instruction. -/

namespace Sys2Proof

open Sys2Proof.Machine Sys2Proof.Claims

/-- An instruction is one, two or three bytes long (R162). -/
theorem fetchLength_cases (op : Byte) : fetchLength op = 1 ∨ fetchLength op = 2 ∨ fetchLength op = 3 := by
  rw [fetchLength, Instr.length]
  cases (decodeOp op 0 0).operand.mode <;> decide

theorem operandCount_le_two (op : Byte) : fetchLength op - 1 ≤ 2 := by
  have := fetchLength_cases op
  omega

/-- The operand bytes of a decoded instruction are the ones its length asks for (R162, R228). -/
theorem decodeOp_operand_bytes (op b1 b2 : Byte) :
    (decodeOp op b1 b2).operand.bytes = [b1, b2].take (fetchLength op - 1) := by
  rw [fetchLength, Instr.length, decodeOp_operand, decodeOp_operand op 0 0]
  split
  · rfl
  · rw [Mode.operand_bytes, Mode.operand_mode]

/-- The bytes of a decoded instruction: its opcode byte, then the operand bytes its length asks for (R161, R162). -/
theorem encode_decodeOp (op b1 b2 : Byte) :
    encode (decodeOp op b1 b2) = op :: [b1, b2].take (fetchLength op - 1) := by
  rw [encode, decodeOp_opcode, decodeOp_operand_bytes]

/-- A mode's operand is fixed by the operand bytes that stand in its length (R162). -/
theorem Mode.operand_congr {m : Mode} {b1 b2 c1 c2 : Byte}
    (h : [b1, b2].take (m.length - 1) = [c1, c2].take (m.length - 1)) :
    m.operand b1 (word b2 b1) = m.operand c1 (word c2 c1) := by
  cases m <;> simp_all [Mode.operand, Mode.length]

/-- The decoder looks at no operand byte beyond the instruction's length (R228). -/
theorem decodeOp_congr {op b1 b2 c1 c2 : Byte}
    (h : [b1, b2].take (fetchLength op - 1) = [c1, c2].take (fetchLength op - 1)) :
    decodeOp op b1 b2 = decodeOp op c1 c2 := by
  apply decodeOp_ext
  rw [decodeOp_operand, decodeOp_operand op c1]
  split
  · rfl
  · rename_i hhalts
    rw [fetchLength, Instr.length, decodeOp_operand, if_neg hhalts, Mode.operand_mode] at h
    exact Mode.operand_congr h

/-- The decoder's answer when no operand byte is missing (R228). -/
theorem decode_cons {op : Byte} {tail : List Byte} (h : fetchLength op - 1 ≤ tail.length) :
    decode (op :: tail) = .ok (decodeOp op (tail.getD 0 0) (tail.getD 1 0), tail.drop (fetchLength op - 1)) := if_pos h

/-- A list of bytes that decodes has an opcode byte and as many more as its length asks for (R228). -/
theorem decode_ok {bytes : List Byte} {i : Instr} {rest : List Byte} (h : decode bytes = .ok (i, rest)) :
    ∃ op tail, bytes = op :: tail ∧ fetchLength op - 1 ≤ tail.length ∧
      i = decodeOp op (tail.getD 0 0) (tail.getD 1 0) ∧ rest = tail.drop (fetchLength op - 1) := by
  cases bytes with
  | nil => nomatch h
  | cons op tail =>
    by_cases hlen : fetchLength op - 1 ≤ tail.length
    · cases (decode_cons hlen).symm.trans h
      exact ⟨op, tail, rfl, hlen, rfl, rfl⟩
    · have herr : decode (op :: tail) = .error (.operandMissing op) := if_neg hlen
      nomatch herr.symm.trans h

/-- The first bytes of a list, as the decoder looks them up. -/
theorem take_getD_getD {n : Nat} {tail : List Byte} (hn : n ≤ 2) (h : n ≤ tail.length) :
    [tail.getD 0 0, tail.getD 1 0].take n = tail.take n := by
  match n, tail, hn, h with
  | 0, _, _, _ => rfl
  | 1, _ :: _, _, _ => rfl
  | 2, _ :: _ :: _, _, _ => rfl

/-- The decoder takes the operand bytes off the list and answers the rest (R228). -/
theorem decode_cons_append {op : Byte} {operands : List Byte} (h : operands.length = fetchLength op - 1) (rest : List Byte) :
    decode (op :: (operands ++ rest)) = .ok (decodeOp op (operands.getD 0 0) (operands.getD 1 0), rest) := by
  have htwo := operandCount_le_two op
  have henough : fetchLength op - 1 ≤ (operands ++ rest).length := by simp [h]
  have htake : [(operands ++ rest).getD 0 0, (operands ++ rest).getD 1 0].take (fetchLength op - 1) =
      [operands.getD 0 0, operands.getD 1 0].take (fetchLength op - 1) := by
    rw [take_getD_getD htwo henough, take_getD_getD htwo h.ge, List.take_left' h, ← h, List.take_length]
  rw [decode_cons henough, decodeOp_congr htake, List.drop_left' h]

/-- Settles O1: the instruction is what its opcode byte decodes to with some operand bytes, and its encoding holds those it takes. -/
theorem decodingAnEncodedInstructionGivesItBack : Obligations.DecodingAnEncodedInstructionGivesItBack := by
  intro i rest
  obtain ⟨b1, b2, hi⟩ := Laws.encoded i
  generalize i.opcode = op at hi
  subst hi
  have htwo := operandCount_le_two op
  have hlen : ([b1, b2].take (fetchLength op - 1)).length = fetchLength op - 1 := by simpa using htwo
  have htake := take_getD_getD htwo hlen.ge
  rw [List.take_take, min_self] at htake
  rw [encode_decodeOp, List.cons_append, decode_cons_append hlen, decodeOp_congr htake]

/-- Settles O2: the encoding is the opcode byte and the bytes the decoder took. -/
theorem encodingADecodedInstructionGivesTheBytesBack : Obligations.EncodingADecodedInstructionGivesTheBytesBack := by
  intro bytes i rest h
  obtain ⟨op, tail, rfl, hlen, rfl, rfl⟩ := decode_ok h
  have htwo := operandCount_le_two op
  rw [encode_decodeOp, take_getD_getD htwo hlen, List.cons_append, List.take_append_drop]

/-- R191's table, row by row, for the opcode byte alone. -/
theorem opcodeMap_rows : ∀ row ∈ opcodeMap, ∀ form ∈ row.2, ∀ op ∈ form.2,
    (decodeOp op 0 0).row.mnemonic = row.1 ∧ (decodeOp op 0 0).row.mode = form.1 := by
  have htable : (opcodeMap.all fun row => row.2.all fun form => form.2.all fun op =>
      decide ((decodeOp op 0 0).row.mnemonic = row.1 ∧ (decodeOp op 0 0).row.mode = form.1)) = true := by
    decide +kernel
  simpa only [List.all_eq_true, decide_eq_true_eq] using htable

/-- Settles O3: the opcode byte alone fixes the row, and the table's bytes have its rows. -/
theorem opcodesHaveTheirMnemonicAndMode : Obligations.OpcodesHaveTheirMnemonicAndMode := by
  intro row hrow form hform op hop b1 b2
  rw [Instr.mnemonic, decodeOp_row]
  exact opcodeMap_rows row hrow form hform op hop

/-- The model's operand of a mode is the statements' (R162). -/
theorem Mode.operand_eq_operandOf (m : Mode) (b1 b2 : Byte) : m.operand b1 (word b2 b1) = operandOf m b1 b2 := by
  cases m <;> rfl

/-- Every mode has the opcode byte in its length (R162). -/
theorem Mode.take_length (m : Mode) (op b1 b2 : Byte) :
    [op, b1, b2].take m.length = op :: [b1, b2].take (m.length - 1) := by
  cases m <;> rfl

/-- Settles O5: the modes' lengths by their definition, the operand by its mode, and the bytes cut to the mode's length. -/
theorem operandBytesFollowTheModeLayout : Obligations.OperandBytesFollowTheModeLayout := by
  refine ⟨rfl, fun op b1 b2 hop => ⟨?_, ?_⟩⟩
  · have hhalts : (decodeOp op 0 0).row.halts = false := by simpa [Instr.halts, hop] using decodeOp_halts op 0 0
    rw [decodeOp_operand, hhalts, if_neg Bool.false_ne_true, Mode.operand_eq_operandOf, decodeOp_row op b1 b2]
  · have hlength : fetchLength op = (decodeOp op b1 b2).row.mode.length := by
      rw [fetchLength_eq_length op b1 b2, decodeOp_length, if_neg hop]
    rw [encode_decodeOp, hlength, Mode.take_length]

end Sys2Proof
end

section
/-! PROOFS. The assembler (30_encoding.md R229): every instruction but the halting ones has a line, and a branch offset is the
difference to its target (R182). -/

namespace Sys2Proof

open Sys2Proof.Machine

/-- The line of an instruction is well formed exactly when it does not halt (R191, R229). -/
theorem form_wellFormed (i : Instr) : i.form.wellFormed = !i.halts := by cases i <;> rfl

theorem mem_allOpcodes (op : Byte) : op ∈ allOpcodes :=
  List.mem_map.mpr ⟨op.toNat, List.mem_range.mpr op.isLt, by simp⟩

/-- An instruction is decoded from its opcode byte and its line's operand bytes, missing ones read as 0. -/
theorem decodeOp_operand_getD (i : Instr) :
    decodeOp i.opcode (i.operand.bytes.getD 0 0) (i.operand.bytes.getD 1 0) = i := by
  have h := decodingAnEncodedInstructionGivesItBack i []
  rw [List.append_nil, encode] at h
  obtain ⟨op, tail, hbytes, -, hi, -⟩ := decode_ok h
  cases hbytes
  exact hi.symm

/-- The line of an instruction that does not halt assembles to it (R229). -/
theorem mem_assembleAll_form {i : Instr} (h : i.halts = false) : i ∈ assembleAll i.form := by
  refine List.mem_filter.mpr ⟨List.mem_map.mpr ⟨i.opcode, mem_allOpcodes _, decodeOp_operand_getD i⟩, ?_⟩
  simp [h]

/-- A word in the range of a signed byte is the sign extension of its low byte (00_scope.md R14). -/
theorem sext16_lo8 {d : Word} (hlow : -128 ≤ d.toInt) (hhigh : d.toInt ≤ 127) : sext16 (lo8 d) = d := by
  apply BitVec.eq_of_toNat_eq
  rw [sext16_toNat, lo8_toNat]
  rw [BitVec.toInt_eq_toNat_cond] at hlow hhigh
  have := d.isLt
  split at hlow <;> split <;> omega

theorem lo8_sext16 (b : Byte) : lo8 (sext16 b) = b := by
  apply BitVec.eq_of_toNat_eq
  rw [lo8_toNat, sext16_toNat]
  split <;> omega

theorem sext16_toInt (b : Byte) : (sext16 b).toInt = b.toInt := BitVec.toInt_signExtend_of_le (by decide)

/-- The branch whose offset the assembler computed goes to the target (R182, R229). -/
theorem branchTarget_of_branchOffset {at_ target : Word} {b : Byte} (h : branchOffset at_ target = some b) :
    branchTarget (at_ + 2) b = target := by
  rw [branchOffset] at h
  split at h
  case isTrue hrange =>
    cases h
    rw [branchTarget, sext16_lo8 hrange.1 hrange.2, add_sub_cancel]
  case isFalse => nomatch h

/-- The assembler computes the offset of every target a branch can have (R182, R229). -/
theorem branchOffset_branchTarget (at_ : Word) (b : Byte) : branchOffset at_ (branchTarget (at_ + 2) b) = some b := by
  have hrange : -128 ≤ (sext16 b).toInt ∧ (sext16 b).toInt ≤ 127 := by
    rw [sext16_toInt]
    exact ⟨BitVec.le_toInt b, Int.le_of_lt_add_one BitVec.toInt_lt⟩
  simp only [branchOffset, branchTarget, add_sub_cancel_left, lo8_sext16, if_pos hrange]

/-- Settles O7: the lines by R191's modes and by decoding the encoding, the offsets by sign extension. -/
theorem assemblerLinesNameEveryInstruction : Obligations.AssemblerLinesNameEveryInstruction :=
  ⟨fun i h => ⟨by rw [form_wellFormed, h]; rfl, mem_assembleAll_form h⟩, fun _ _ _ => branchTarget_of_branchOffset,
    branchOffset_branchTarget⟩

end Sys2Proof
end

section
/-! PROOFS. Effective addresses as numbers (30_encoding.md R173 to R181), page crossing (00_scope.md R22), and the eight branches
(R182, 47_control.md R385 to R393). -/

namespace Sys2Proof

open Sys2Proof.Machine Sys2Proof.Claims

/-- Two addresses are in different pages exactly when their high bytes differ (R22). -/
theorem hi8_bne_iff (v w : Word) : (hi8 v != hi8 w) = true ↔ v.toNat / 256 ≠ w.toNat / 256 := by
  rw [bne_iff_ne, ne_eq, ← BitVec.toNat_inj, hi8_toNat, hi8_toNat]

/-- The byte at an address of page 0, taken mod 2^8 (00_scope.md R17). -/
theorem peek_zeroPage (n : Nat) (s : State) : peek (BitVec.ofNat 16 (n % 256)) s = Memory.read s.ram (n % 256) := by
  have haddr : (BitVec.ofNat 16 (n % 256)).toNat = n % 256 := by rw [BitVec.toNat_ofNat]; omega
  rw [peek_ram ((isRam_iff _).mpr (by omega)), ramIndex, haddr]
  congr 1
  omega

/-- A zero-page pointer as a number: both bytes in page 0, the high one at the next address mod 2^8 (R17, R176, R177). -/
theorem zpPointer_toNat {z : Byte} {n : Nat} (hz : z.toNat = n % 256) (s : State) :
    (zpPointer z s).toNat =
      (peek (BitVec.ofNat 16 ((n + 1) % 256)) s).toNat * 256 + (peek (BitVec.ofNat 16 (n % 256)) s).toNat := by
  have hnext : (z + 1).toNat = (n + 1) % 256 := by bv_omega
  rw [zpPointer, word_toNat, peek_zeroPage, peek_zeroPage, hz, hnext]

/-- An indexed address as a number, and when its index crosses a page (R177, R180, R181). -/
theorem indexed_toNat (base : Word) (index : Byte) (s : State) :
    (indexed base index s).addr.toNat = (base.toNat + index.toNat) % 65536 ∧
      ((indexed base index s).cross = true ↔ base.toNat / 256 ≠ (indexed base index s).addr.toNat / 256) ∧
      (indexed base index s).state = s := by
  refine ⟨?_, hi8_bne_iff base _, rfl⟩
  simp [indexed, BitVec.toNat_add]

/-- The second byte of an indirect jump's pointer is read with no carry into the page (R178). -/
theorem pointerHigh_eq (w : Word) :
    word (hi8 w) (lo8 w + 1) = BitVec.ofNat 16 (w.toNat / 256 * 256 + (w.toNat + 1) % 256) := by
  rw [← pointerHigh_toNat, BitVec.ofNat_toNat, BitVec.setWidth_eq]

/-- Settles O17, mode by mode. -/
theorem effectiveAddressesFollowTheModes : Obligations.EffectiveAddressesFollowTheModes := by
  intro b w s
  refine ⟨⟨zext16_toNat b, rfl, rfl⟩, ⟨?zpx, rfl, rfl⟩, ⟨?zpy, rfl, rfl⟩, ⟨?indx, ?_, ?_⟩, ?indy, rfl,
    indexed_toNat w s.x s, indexed_toNat w s.y s, ?ind, ?_⟩
  case zpx => simp [BitVec.toNat_add]
  case zpy => simp [BitVec.toNat_add]
  case indx =>
    rw [effAddr_indx]
    exact zpPointer_toNat (BitVec.toNat_add b s.x) s
  case indy =>
    have hmode : effAddr (.indy b) s = indexed (zpPointer b s) s.y s := effAddr_indy s b
    have hpointer := zpPointer_toNat (z := b) (n := b.toNat) (by omega) s
    have h := indexed_toNat (zpPointer b s) s.y s
    rw [← hmode, hpointer] at h
    exact h
  case ind => rw [← pointerHigh_eq]; exact word_toNat _ _
  · rw [effAddr_indx]
  · rw [effAddr_indx]
  · rw [← pointerHigh_eq]; rfl

/-- The statements' sign extension is the model's (00_scope.md R14). -/
theorem sext16_eq_sext (b : Byte) : sext16 b = sext b := by
  apply BitVec.eq_of_toNat_eq
  rw [sext16_toNat, sext, BitVec.toNat_ofNat]
  split <;> omega

/-- A branch as the statements write it (47_control.md R385). -/
theorem branch_eq (cond : Bool) (b : Byte) (s : State) :
    branch cond b s =
      let next := s.pc + 2
      let target := next + sext b
      if cond then
        .next { s with pc := target, cycles := some (if next.toNat / 256 = target.toNat / 256 then 3 else 4) }
      else .next { s with pc := next, cycles := some 2 } := by
  cases cond with
  | false => rfl
  | true =>
    have hcount : 2 + (1 + (hi8 (s.pc + 2) != hi8 (s.pc + 2 + sext16 b)).toNat) =
        if (s.pc + 2).toNat / 256 = (s.pc + 2 + sext16 b).toNat / 256 then 3 else 4 := by
      split
      case isTrue hsame => rw [Bool.eq_false_iff.mpr (mt (hi8_bne_iff _ _).mp (not_not_intro hsame))]; rfl
      case isFalse hcross => rw [(hi8_bne_iff _ _).mpr hcross]; rfl
    simp only [if_true, ← sext16_eq_sext, ← hcount]
    rfl

/-- The eight branch opcodes with the flag each tests (R386 to R393). -/
theorem exec_branches : ∀ br ∈ branches, ∀ b1 b2 s, exec (decodeOp br.1 b1 b2) s = branch (br.2 s.p) b1 s := by
  simp only [branches, List.forall_mem_cons]
  exact ⟨fun _ _ _ => rfl, fun _ _ _ => rfl, fun _ _ _ => rfl, fun _ _ _ => rfl, fun _ _ _ => rfl, fun _ _ _ => rfl,
    fun _ _ _ => rfl, fun _ _ _ => rfl, nofun⟩

/-- Settles O31: each opcode is the branch on its flag. -/
theorem branchesTestOneFlag : Obligations.BranchesTestOneFlag := by
  intro br hbr b1 b2 s
  rw [exec_branches br hbr b1 b2 s, branch_eq]

end Sys2Proof
end

section
/-! PROOFS. What an instruction writes in memory (30_encoding.md R183): nothing if it neither stores nor pushes, and one byte if it
stores at its effective address. -/

namespace Sys2Proof

open Sys2Proof.Machine Sys2Proof.Claims

/-- The operand in memory, where there is one. -/
def Operand.memory? : Operand → Option MemOperand
  | .memory m => some m
  | .implied | .accumulator | .immediate _ | .relative _ => none

theorem Operand.memory?_eq_some {o : Operand} {m : MemOperand} : o.memory? = some m ↔ o = .memory m := by
  cases o <;> simp [Operand.memory?]

/-- The operand an effect stores at: the write class and the read-modify-write class store (R183). -/
def Effect.storedAt : Effect → Option MemOperand
  | .write m _ | .modify m _ _ => some m
  | .implied _ | .read _ _ | .branch _ _ | .jump _ | .call _ | .halt => none

theorem effect_storedAt (i : Instr) : i.effect.storedAt = if i.mnemonic ∈ storers then i.operand.memory? else none := by
  cases i <;> rfl

/-- The effects that store are those of the instructions R183 lists. -/
theorem effect_storedAt_eq_some {i : Instr} {m : MemOperand} : i.effect.storedAt = some m ↔ storesAt i m := by
  rw [effect_storedAt, storesAt, Option.ite_none_right_eq_some, Operand.memory?_eq_some, and_comm]

/-- The own part of a mnemonic that does not push leaves RAM as it is. -/
theorem effect_sameRam {i : Instr} (h : pushes i = 0) : i.effect.Within fun s t => t.ram = s.ram := by
  rw [Instr.effect]
  unfold pushes at h
  generalize i.mnemonic = mn at h
  generalize i.operand = o
  cases mn
  case pha | php | jsr | brk => nomatch h
  case lda | ldx | ldy | lax | las | adc | sbc | cmp | cpx | cpy | and | ora | eor | bit | nop | anc | alr | arr | axs =>
    cases o with
    | immediate b => exact fun _ _ => rfl
    | memory m => exact fun _ _ => rfl
    | _ => exact fun _ => rfl
  case sta | stx | sty | sax =>
    cases o with
    | memory m => trivial
    | _ => exact fun _ => rfl
  case asl | lsr | rol | ror | inc | dec | slo | rla | sre | rra | dcp | isc =>
    cases o with
    | memory m => exact ⟨fun _ _ => rfl, fun _ _ => rfl⟩
    | _ => exact fun _ => rfl
  case bpl | bmi | bvc | bvs | bcc | bcs | bne | beq =>
    cases o with
    | relative b => exact fun _ _ => rfl
    | _ => exact fun _ => rfl
  case jmp =>
    cases o with
    | memory m => exact fun _ _ => rfl
    | _ => exact fun _ => rfl
  case pla | plp | rti | rts => exact fun s => by simp only [pull_eq, pullWord_eq, returnFromInterrupt_eq]
  all_goals exact fun _ => rfl

theorem Machine.ReadOnly.ram {s t : State} (h : ReadOnly s t) : t.ram = s.ram := by
  obtain ⟨d, rfl, -⟩ := h
  rfl

/-- What a write makes of RAM depends on RAM alone (20_memory.md R103). -/
theorem memWrite_ram_congr {s t : State} (h : t.ram = s.ram) (a : Word) (v : Byte) :
    (memWrite a v t).ram = (memWrite a v s).ram := by
  by_cases ha : isRam a = true
  · rw [memWrite_ram ha, memWrite_ram ha, h]
  · rw [memWrite_bus (by simpa using ha), memWrite_bus (by simpa using ha), h]

/-- An effect that does not store leaves RAM as its own part does. -/
theorem run_ram_of_stores_none {e : Effect} (hstore : e.storedAt = none) (he : e.Within fun s t => t.ram = s.ram)
    (base : Nat) (s : State) : ∃ t, e.run base s = .next t ∧ t.ram = s.ram := by
  cases e with
  | implied f => exact ⟨_, rfl, he _⟩
  | read o f => exact ⟨_, rfl, (he _ _).trans (readSource_readOnly o _).ram⟩
  | branch cond b =>
    simp only [Effect.run, branch]
    split <;> exact ⟨_, rfl, rfl⟩
  | jump m => exact ⟨_, rfl, (effAddr_readOnly m _).ram⟩
  | call w => exact ⟨_, rfl, he _⟩
  | halt => exact ⟨_, rfl, rfl⟩
  | write | modify => nomatch hstore

/-- An effect that stores changes RAM by one write at its effective address. -/
theorem run_ram_of_stores {e : Effect} {m : MemOperand} (hstore : e.storedAt = some m)
    (he : e.Within fun s t => t.ram = s.ram) (base : Nat) (s : State) :
    ∃ t v, e.run base s = .next t ∧ t.ram = (memWrite (effAddr m (advancePc (memLength m) s)).addr v s).ram := by
  cases e with
  | write m v =>
    cases hstore
    have hread : (effAddr m (advancePc (memLength m) s)).state.ram = s.ram := (effAddr_readOnly m _).ram
    exact ⟨_, _, rfl, memWrite_ram_congr hread _ _⟩
  | modify m f g =>
    cases hstore
    obtain ⟨-, hg⟩ := he
    have hread := (effAddr_readOnly m (advancePc (memLength m) s)).trans
      (memRead_readOnly (effAddr m (advancePc (memLength m) s)).addr _)
    refine ⟨_, _, rfl, (hg _ _).trans (memWrite_ram_congr ?_ _ _)⟩
    exact hread.ram
  | implied | read | branch | jump | call | halt => nomatch hstore

/-- The devices are the same after an instruction where their history is. -/
theorem exec_dev_eq {i : Instr} {s t : State} (h : exec i s = .next t) (hevents : t.dev.events = s.dev.events) :
    t.dev = s.dev := by
  obtain ⟨u, hu, -, -, -, -, -, -, hquiet, -⟩ := instructionsLeaveTheRestOfTheMachine i s
  cases hu.symm.trans h
  exact (hquiet hevents).1

/-- Settles O39: the effect does not store, and its own part leaves RAM. -/
theorem instructionsThatStoreNothingKeepMemory : Obligations.InstructionsThatStoreNothingKeepMemory := by
  intro i s hstores hpushes
  obtain ⟨base, hrun⟩ := exec_eq_run i
  have hnone : i.effect.storedAt = none :=
    Option.eq_none_iff_forall_ne_some.mpr fun m hm => hstores m (effect_storedAt_eq_some.mp hm)
  obtain ⟨t, ht, hram⟩ := run_ram_of_stores_none hnone (effect_sameRam hpushes) base s
  rw [← hrun] at ht
  refine ⟨t, ht, hram, fun hevents => peek_congr hram (exec_dev_eq ht hevents), fun ho => ?_⟩
  have hbrk : i.mnemonic ≠ .brk := fun hbrk => by simp [pushes, hbrk] at hpushes
  obtain ⟨u, hu, hdev⟩ := exec_dev_of_no_memory ho hbrk s
  cases hu.symm.trans ht
  exact peek_congr hram hdev

theorem ramByte_of_isRam {a : Word} (h : isRam a = true) : ramByte a = some (ramIndex a) := if_pos ((isRam_iff a).mp h)

theorem ramByte_of_not_isRam {a : Word} (h : isRam a = false) : ramByte a = none := if_neg (by simpa [isRam] using h)

/-- A RAM byte that a write does not name is the same after it (20_memory.md R103, R111). -/
theorem read_memWrite_other {a ea : Word} (ha : isRam a = true) (h : ramByte a ≠ ramByte ea) (v : Byte) (s : State) :
    Memory.read (memWrite ea v s).ram (ramIndex a) = Memory.read s.ram (ramIndex a) := by
  by_cases hea : isRam ea = true
  · rw [ramByte_of_isRam ha, ramByte_of_isRam hea] at h
    rw [memWrite_ram hea]
    exact Memory.read_write_other _ _ _ v fun hsame => h (congrArg some hsame)
  · rw [memWrite_bus (by simpa using hea)]

/-- A mnemonic that stores does not push. -/
theorem pushes_of_storer {i : Instr} (h : i.mnemonic ∈ storers) : pushes i = 0 := by
  unfold pushes
  generalize i.mnemonic = mn at h
  cases mn
  case pha | php | jsr | brk => exact absurd h (by decide)
  all_goals rfl

/-- Settles O40: RAM changes by the one write, and the devices by no access that their history does not show. -/
theorem storesChangeOneByte : Obligations.StoresChangeOneByte := by
  intro i m s hstores
  obtain ⟨base, hrun⟩ := exec_eq_run i
  obtain ⟨hoperand, hstorer⟩ := id hstores
  have hlength : i.length = memLength m := by rw [Instr.length, hoperand]; rfl
  obtain ⟨t, v, ht, hram⟩ :=
    run_ram_of_stores (effect_storedAt_eq_some.mpr hstores) (effect_sameRam (pushes_of_storer hstorer)) base s
  rw [← hrun] at ht
  rw [← hlength] at hram
  have hlow (a : Word) (ha : isRam a = true) (hne : ramByte a ≠ ramByte (effAddr m (advancePc i.length s)).addr) :
      peek a t = peek a s := by
    rw [peek_ram ha, peek_ram ha, hram, read_memWrite_other ha hne]
  refine ⟨t, ht, fun a ha hne => hlow a ((isRam_iff a).mpr ha) hne, fun hevents a ha => ?_⟩
  by_cases hisRam : isRam a = true
  · exact hlow a hisRam (ha.resolve_left (by simp [ramByte_of_isRam hisRam]))
  · have hbus : isRam a = false := by simpa using hisRam
    rw [peek_bus hbus, peek_bus hbus, exec_dev_eq ht hevents]

end Sys2Proof
end

section
/-! PROOFS. The step (30_encoding.md R160): what it is without a run, with an interrupt, at a halting opcode and at any other, and that
it is the decoded instruction's meaning where the fetch changes no device. -/

namespace Sys2Proof

open Sys2Proof.Machine Sys2Proof.Claims

/-- The poll (60_exceptions.md R510, R520, R521): NMI, else IRQ with I = 0, else nothing. -/
theorem poll_eq (s : State) :
    poll s =
      if s.nmiPending = true then (7, enterInterrupt 0xFFFA s.pc false { s with nmiPending := false })
      else if s.irqPending = true ∧ s.p.i = false then
        (7, enterInterrupt 0xFFFE s.pc false { s with irqPending := false })
      else (0, s) := by
  simp only [← Bool.not_eq_true', ← Bool.and_eq_true]
  rfl

theorem isRunning_eq_false_iff (s : State) : isRunning s = false ↔ s.running = false ∨ s.halted = true := by
  rw [isRunning, Bool.and_eq_false_iff, Bool.not_eq_false']

/-- A halting instruction sets `halted` and has no count (60_exceptions.md R500). -/
theorem exec_of_halts {i : Instr} (h : i.halts = true) (s : State) : exec i s = halt s := by
  obtain ⟨base, hrun⟩ := exec_eq_run i
  rw [hrun, Effect.eq_halt ((effect_halts i).trans h)]
  rfl

/-- A halting opcode is fetched with no operand byte (R226). -/
theorem fetch_of_halting {s : State} (h : (memRead s.pc s).1 ∈ haltingOpcodes) :
    fetch s = (decodeOp (memRead s.pc s).1 0 0, (memRead s.pc s).2) := by
  have hlength : fetchLength (memRead s.pc s).1 = 1 := by rw [fetchLength, decodeOp_length, if_pos h]
  simp [fetch, hlength]

/-- An opcode that does not halt is fetched with the operand bytes of its mode (R160, R162). -/
theorem fetch_of_not_halting {s : State} (h : (memRead s.pc s).1 ∉ haltingOpcodes) :
    fetch s =
      let op := memRead s.pc s
      let n := (decodeOp op.1 0 0).row.mode.length
      let b1 := if 2 ≤ n then memRead (s.pc + 1) op.2 else (0, op.2)
      let b2 := if n = 3 then memRead (s.pc + 2) b1.2 else (0, b1.2)
      (decodeOp op.1 b1.1 b2.1, b2.2) := by
  have hlength : fetchLength (memRead s.pc s).1 = (decodeOp (memRead s.pc s).1 0 0).row.mode.length := by
    rw [fetchLength, decodeOp_length, if_neg h]
  simp only [fetch, hlength]

/-- Settles O45: without a run by definition, else the poll, and then by whether the opcode byte halts. -/
theorem stepFollowsTheInstructionCycle : Obligations.StepFollowsTheInstructionCycle := by
  intro s
  by_cases hstopped : s.running = false ∨ s.halted = true
  · rw [if_pos hstopped, step, (isRunning_eq_false_iff s).mpr hstopped]
    rfl
  · have hrunning : isRunning s = true := by simpa using mt (isRunning_eq_false_iff s).mp hstopped
    rw [if_neg hstopped, step, if_pos hrunning, poll_eq]
    generalize (if s.nmiPending = true then _ else _ : Nat × State) = polled
    dsimp only
    split
    case isTrue hhalting =>
      have hhalts : (decodeOp (memRead polled.2.pc polled.2).1 0 0).halts = true := by simpa using hhalting
      rw [fetch_of_halting hhalting, exec_of_halts hhalts]
      rfl
    case isFalse hgoes =>
      rw [fetch_of_not_halting hgoes]
      rfl

theorem poll_of_quiet {s : State} (h : quiet s) : poll s = (0, s) := by
  obtain ⟨hnmi, hirq⟩ := h
  rw [poll_eq, hnmi, if_neg Bool.false_ne_true, if_neg]
  rintro ⟨hpending, hclear⟩
  exact hirq.elim (by simp [hpending]) (by simp [hclear])

theorem addEntry_zero (r : Result) : addEntry 0 r = r := by
  cases r <;> simp [addEntry]

/-- Where reading an instruction's bytes changes no device, the fetch answers the instruction they decode to and changes nothing
(R160, 20_memory.md R124). -/
theorem fetch_of_quiet_reads {s : State}
    (h : ∀ k < fetchLength (peek s.pc s), (memRead (s.pc + BitVec.ofNat 16 k) s).2 = s) :
    fetch s = (decodeOp (peek s.pc s) (peek (s.pc + 1) s) (peek (s.pc + 2) s), s) := by
  have hread (k : Nat) (hk : k < fetchLength (peek s.pc s)) :
      memRead (s.pc + BitVec.ofNat 16 k) s = (peek (s.pc + BitVec.ofNat 16 k) s, s) := Prod.ext rfl (h k hk)
  have hlength := fetchLength_cases (peek s.pc s)
  have hop : memRead s.pc s = (peek s.pc s, s) := by simpa using hread 0 (by omega)
  simp only [fetch, hop]
  generalize peek s.pc s = op at hread hlength
  obtain hn | hn | hn := hlength <;> rw [hn] at hread
  · have hop0 : decodeOp op 0 0 = decodeOp op (peek (s.pc + 1) s) (peek (s.pc + 2) s) := decodeOp_congr (by rw [hn]; rfl)
    simp only [hn, Nat.reduceLeDiff, Nat.reduceEqDiff, if_false, hop0]
  · have hb1 : memRead (s.pc + 1) s = (peek (s.pc + 1) s, s) := hread 1 (by decide)
    have hop1 : decodeOp op (peek (s.pc + 1) s) 0 = decodeOp op (peek (s.pc + 1) s) (peek (s.pc + 2) s) :=
      decodeOp_congr (by rw [hn]; rfl)
    simp only [hn, le_refl, Nat.reduceEqDiff, if_true, if_false, hb1, hop1]
  · have hb1 : memRead (s.pc + 1) s = (peek (s.pc + 1) s, s) := hread 1 (by decide)
    have hb2 : memRead (s.pc + 2) s = (peek (s.pc + 2) s, s) := hread 2 (by decide)
    simp only [hn, Nat.reduceLeDiff, if_true, hb1, hb2]

/-- Settles O46: no entry at the poll, and the fetch changes nothing. -/
theorem stepRunsTheDecodedInstruction : Obligations.StepRunsTheDecodedInstruction := by
  intro s i rest hrunning hhalted hquiet hreads hdecode
  obtain ⟨op, tail, hbytes, -, hi, -⟩ := decode_ok hdecode
  cases hbytes
  have hlength : i.length = fetchLength (peek s.pc s) := by rw [hi]; exact (fetchLength_eq_length _ _ _).symm
  rw [hlength] at hreads
  have hrun : isRunning s = true := by simp [isRunning, hrunning, hhalted]
  rw [step, if_pos hrun, poll_of_quiet hquiet, addEntry_zero, fetch_of_quiet_reads hreads, hi]
  rfl

end Sys2Proof
end

section
/-! PROOFS. The read class and the write class as the statements list them (30_encoding.md R183, R185): an encoding's operand, length
and count against the model's access classes, then the loads and the stores (40_load_store.md R300 to R305, 49_undocumented.md R426). -/

namespace Sys2Proof.Claims

open Sys2Proof.Machine

/-- The statements' `SetNZ` is the model's (00_scope.md R17). -/
theorem setNZ_eq_nz (v : Byte) (p : Flags) : setNZ v p = nz v p := by
  simp only [setNZ, nz, beq_eq_decide]

/-- The modes whose index can carry into the next page (30_encoding.md R177, R180, R181). -/
def pageCrossers : List Mode := [.absx, .absy, .indy]

/-- Only an index added to a 16-bit base crosses a page (00_scope.md R22). -/
theorem mode_mem_pageCrossers {m : MemOperand} {s : State} (h : (effAddr m s).cross = true) : m.mode ∈ pageCrossers := by
  cases m with
  | absx | absy | indy => simp [pageCrossers, MemOperand.mode]
  | zp | zpx | zpy | abs | ind => nomatch h
  | indx b => simp at h

theorem memOperand_mode {mode : Mode} {b1 b2 : Byte} {m : MemOperand} (h : memOperand mode b1 b2 = some m) :
    m.mode = mode := by
  cases mode <;> cases h <;> rfl

/-- The source a read-class encoding makes of its operand bytes (R183): b1 itself where the mode has no operand in memory. -/
def Enc.source (e : Enc) (b1 b2 : Byte) : Source :=
  match memOperand e.mode b1 b2 with
  | none => .imm b1
  | some m => .mem m

/-- An encoding as the read class has them: two or three bytes as R162 gives its mode, and the penalty of R185 marked wherever the
mode can cross a page. -/
abbrev Enc.ReadForm (e : Enc) : Prop :=
  e.mode.length ≠ 1 ∧ e.bytes = e.mode.length ∧ (e.mode ∈ pageCrossers → e.plus = true)

theorem Enc.sourceLength_source {e : Enc} (h : e.mode.length ≠ 1) (b1 b2 : Byte) :
    sourceLength (e.source b1 b2) = e.mode.length := by
  obtain ⟨opcode, mode, bytes, cycles, plus⟩ := e
  cases mode with
  | imp | acc => exact absurd rfl h
  | _ => rfl

/-- The statements' operand of the read class is the model's (R183). -/
theorem Enc.readSource_source (e : Enc) (b1 b2 : Byte) (s : State) :
    readSource (e.source b1 b2) (start e.bytes s) =
      ⟨(e.got b1 b2 s).value, (e.got b1 b2 s).cross.toNat, (e.got b1 b2 s).state⟩ := by
  unfold Enc.source Enc.got
  cases memOperand e.mode b1 b2 <;> rfl

theorem Enc.mode_of_got_cross {e : Enc} {b1 b2 : Byte} {s : State} (h : (e.got b1 b2 s).cross = true) :
    e.mode ∈ pageCrossers := by
  unfold Enc.got at h
  cases hm : memOperand e.mode b1 b2 with
  | none => simp [hm] at h
  | some m =>
    rw [hm] at h
    rw [← memOperand_mode hm]
    exact mode_mem_pageCrossers h

/-- The listed count is the base count and the penalty (R185). -/
theorem Enc.cost_got {e : Enc} (hplus : e.mode ∈ pageCrossers → e.plus = true) (b1 b2 : Byte) (s : State) :
    e.cost (e.got b1 b2 s).cross = some (e.cycles + (e.got b1 b2 s).cross.toNat) := by
  cases hcross : (e.got b1 b2 s).cross with
  | false => simp [Enc.cost]
  | true => simp [Enc.cost, hplus (Enc.mode_of_got_cross hcross)]

/-- The model's read class on an encoding's operand is what the statements say of a read-class encoding. -/
theorem readsTo_of_readClass {encs : List Enc} {f : Byte → State → State} (hform : ∀ e ∈ encs, e.ReadForm)
    (hexec : ∀ e ∈ encs, ∀ b1 b2 s, exec (decodeOp e.opcode b1 b2) s = readClass (e.source b1 b2) e.cycles f s) :
    ReadsTo encs f := by
  intro e he b1 b2 s
  obtain ⟨hlength, hbytes, hplus⟩ := hform e he
  have hstart : advancePc (sourceLength (e.source b1 b2)) s = start e.bytes s := by
    rw [Enc.sourceLength_source hlength, hbytes]; rfl
  rw [hexec e he b1 b2 s, readClass, hstart, Enc.readSource_source, Enc.cost_got hplus]
  rfl

/-- The model's write class on an encoding's operand is what the statements say of a write-class encoding: no mode of a store reads a
device for its address, so the byte stored is the one the registers held at the start. -/
theorem writesTo_of_writeClass {encs : List Enc} {v : State → Byte} (hv : ∀ n s, v (start n s) = v s)
    (hform : ∀ e ∈ encs, e.mode ≠ .ind ∧ e.bytes = e.mode.length)
    (hexec : ∀ e ∈ encs, ∀ b1 b2, ∃ m, memOperand e.mode b1 b2 = some m ∧
      ∀ s, exec (decodeOp e.opcode b1 b2) s = writeClass m e.cycles v s) : WritesTo encs v := by
  intro e he b1 b2 s
  obtain ⟨hind, hbytes⟩ := hform e he
  obtain ⟨m, hm, hrun⟩ := hexec e he b1 b2
  have hmode : m.mode = e.mode := memOperand_mode hm
  have hstart : advancePc (memLength m) s = start e.bytes s := by rw [memLength, hmode, hbytes]; rfl
  have hvalue : v (effAddr m (start e.bytes s)).state = v s := by rw [effAddr_state (hmode ▸ hind), hv]
  exact ⟨m, hm, by rw [hrun, writeClass, hstart, hvalue]; rfl⟩

theorem loadA_eq (m : Byte) (s : State) : loadA m s = { s with a := m, p := nz m s.p } := by rw [loadA, setNZ_eq_nz]

theorem loadX_eq (m : Byte) (s : State) : loadX m s = { s with x := m, p := nz m s.p } := by rw [loadX, setNZ_eq_nz]

theorem loadY_eq (m : Byte) (s : State) : loadY m s = { s with y := m, p := nz m s.p } := by rw [loadY, setNZ_eq_nz]

/-- Settles O18: every listed form is the read class with its register's load. -/
theorem loadsMoveTheOperandIntoARegister : Obligations.LoadsMoveTheOperandIntoARegister := by
  unfold Obligations.LoadsMoveTheOperandIntoARegister
  simp only [← loadA_eq, ← loadX_eq, ← loadY_eq]
  refine ⟨readsTo_of_readClass (by decide) fun e he b1 b2 s => ?lda, readsTo_of_readClass (by decide) fun e he b1 b2 s => ?ldx,
    readsTo_of_readClass (by decide) fun e he b1 b2 s => ?ldy⟩
  case lda | ldx | ldy => fin_cases he <;> rfl

/-- Settles O19: every listed form is the write class with its register, or with A AND X. -/
theorem storesWriteTheRegisterAtTheAddress : Obligations.StoresWriteTheRegisterAtTheAddress := by
  refine ⟨writesTo_of_writeClass (fun _ _ => rfl) (by decide) fun e he b1 b2 => ?sta,
    writesTo_of_writeClass (fun _ _ => rfl) (by decide) fun e he b1 b2 => ?stx,
    writesTo_of_writeClass (fun _ _ => rfl) (by decide) fun e he b1 b2 => ?sty,
    writesTo_of_writeClass (fun _ _ => rfl) (by decide) fun e he b1 b2 => ?sax⟩
  case sta | stx | sty | sax => fin_cases he <;> exact ⟨_, rfl, fun _ => rfl⟩

end Sys2Proof.Claims
end

section
/-! PROOFS. The sample encodings (30_encoding.md R162, 40_load_store.md R300 to 49_undocumented.md R442), by the decoder's inverse. -/

namespace Sys2Proof

open Sys2Proof.Machine

/-- Encoded instructions, whatever follows each, decode to themselves (R161). -/
theorem map_decode_map_encode (rest : List Byte) (is : List Instr) :
    (is.map encode).map (fun bs => (decode (bs ++ rest)).toOption) = is.map fun i => some (i, rest) := by
  rw [List.map_map]
  refine List.map_congr_left fun i _ => ?_
  rw [Function.comp_apply, decodingAnEncodedInstructionGivesItBack i rest]
  rfl

/-- Settles O6: the twenty byte strings are the encodings of the twenty instructions. -/
theorem sampleInstructionsDecode : Obligations.SampleInstructionsDecode := by
  unfold Obligations.SampleInstructionsDecode
  rw [← map_decode_map_encode]
  rfl

end Sys2Proof
end

section
/-! PROOFS. The one-byte instructions as the statements write them (30_encoding.md R170), then the transfers (41_transfer.md R310 to
R315). -/

namespace Sys2Proof.Claims

open Sys2Proof.Machine

/-- An opcode that runs as an implied instruction of the model is what the statements say of a one-byte instruction. -/
theorem oneByte_of_implied {opcode : Byte} {cycles : Nat} {f : State → State}
    (hexec : ∀ b1 b2 s, exec (decodeOp opcode b1 b2) s = implied cycles f s) : OneByte opcode cycles f :=
  hexec

/-- Settles O20: each opcode is an implied instruction, and the `nz` of the five that set flags is the model's `setNZ`. -/
theorem transfersCopyOneRegister : Obligations.TransfersCopyOneRegister := by
  unfold Obligations.TransfersCopyOneRegister
  simp only [← setNZ_eq_nz]
  refine ⟨oneByte_of_implied ?tax, oneByte_of_implied ?tay, oneByte_of_implied ?txa, oneByte_of_implied ?tya,
    oneByte_of_implied ?tsx, oneByte_of_implied ?txs⟩
  case tax | tay | txa | tya | tsx | txs => exact fun _ _ _ => rfl

end Sys2Proof.Claims
end

section
/-! PROOFS. The stack instructions (42_stack.md R320 to R323). -/

namespace Sys2Proof.Claims

open Sys2Proof.Machine

@[simp] theorem pull_p (s : State) : (pull s).2.p = s.p := by rw [pull_eq]

/-- PLA pulls A and sets its N and Z in the flags before the pull, which the pull leaves as they are (R322). -/
theorem execPla_eq (s : State) :
    execPla s = implied 4 (fun s => { (pull s).2 with a := (pull s).1, p := nz (pull s).1 s.p }) s := by
  simp only [execPla, setNZ_eq_nz, pull_p]

/-- Settles O21: each opcode is an implied instruction. PHA, PHP and PLP are so by definition, `UnpackP` being PLP's six flags. -/
theorem stackInstructionsPushAndPull : Obligations.StackInstructionsPushAndPull := by
  refine ⟨oneByte_of_implied ?pha, oneByte_of_implied ?php, oneByte_of_implied ?pla, oneByte_of_implied ?plp⟩
  case pla => exact fun _ _ s => execPla_eq s
  case pha | php | plp => exact fun _ _ _ => rfl

end Sys2Proof.Claims
end

section
/-! PROOFS. Add, subtract and compare (43_arithmetic.md R330 to R342): the statements' ADC, SBC and Compare against the model's, then
the sum and the difference read as unsigned and as signed numbers. -/

namespace Sys2Proof.Claims

open Sys2Proof.Machine

/-- The statements' ADC is the model's: both take the byte of one exact sum (R330). -/
theorem adcA_eq (m : Byte) (s : State) : adcA m s = adc m s := by
  have hbyte : addByte s.a m s.p.c = BitVec.ofNat 8 (addSum s.a m s.p.c % 256) :=
    BitVec.eq_of_toNat_eq (by simp [addByte])
  simp only [adcA, addFlags, setNZ_eq_nz, hbyte]
  rfl

/-- SBC M is ADC of the complement of M: the pseudocode's `255 - M` is `~M` (R333, R335). -/
theorem sbc_eq_adc_not (m : Byte) (s : State) : sbc m s = adc (~~~m) s := by
  have hnot : BitVec.ofNat 8 (255 - m.toNat) = ~~~m := BitVec.eq_of_toNat_eq (by simp; omega)
  simp only [sbc, adc, hnot]

/-- The statements' SBC is the model's (R333). -/
theorem sbcA_eq (m : Byte) (s : State) : sbcA m s = sbc m s := by rw [sbcA, adcA_eq, sbc_eq_adc_not]

/-- The statements' `Compare(R, M)` sets the model's flags of it (R339). -/
theorem compareFlags_eq (r m : Byte) (s : State) : { s with p := compareFlags r m s.p } = compareBytes r m s := by
  have hdiff : r - m = BitVec.ofNat 8 ((256 + r.toNat - m.toNat) % 256) := by
    have hm := m.isLt
    refine BitVec.eq_of_toNat_eq ?_
    simp only [BitVec.toNat_sub, BitVec.toNat_ofNat]
    omega
  simp only [compareFlags, compareBytes, hdiff, beq_eq_decide]

theorem readsTo_adc : ReadsTo adcEncodings adc := by
  refine readsTo_of_readClass (by decide) fun e he b1 b2 s => ?_
  rw [← show adcA = adc from funext₂ adcA_eq]
  fin_cases he <;> rfl

/-- Every SBC, the undocumented $EB as the documented eight (R333, 49_undocumented.md R434). -/
theorem readsTo_sbc : ReadsTo (sbcEncodings ++ sbcUndocEncodings) sbc := by
  refine readsTo_of_readClass (by decide) fun e he b1 b2 s => ?_
  rw [← show sbcA = sbc from funext₂ sbcA_eq]
  fin_cases he <;> rfl

/-- Settles O22: every listed form is the read class with the model's ADC or SBC, which are the pseudocode's. -/
theorem adcAndSbcAreOneBinaryAdder : Obligations.AdcAndSbcAreOneBinaryAdder :=
  ⟨readsTo_adc, fun e he => readsTo_sbc e (List.mem_append_left _ he),
    fun e he => readsTo_sbc e (List.mem_append_right _ he), sbc_eq_adc_not⟩

/-- Settles O25: every listed form is the read class with the compare of its register. -/
theorem comparesSetCarryZeroAndNegative : Obligations.ComparesSetCarryZeroAndNegative := by
  unfold Obligations.ComparesSetCarryZeroAndNegative
  simp only [← compareFlags_eq]
  refine ⟨readsTo_of_readClass (by decide) fun e he b1 b2 s => ?cmp, readsTo_of_readClass (by decide) fun e he b1 b2 s => ?cpx,
    readsTo_of_readClass (by decide) fun e he b1 b2 s => ?cpy⟩
  case cmp | cpx | cpy => fin_cases he <;> rfl

/-! ### The sum and the difference as numbers -/

/-- The reads of an operand change at most the devices (R183). -/
theorem Enc.readOnly_got (e : Enc) (b1 b2 : Byte) (s : State) : ReadOnly (start e.bytes s) (e.got b1 b2 s).state := by
  simpa only [Enc.readSource_source] using readSource_readOnly (e.source b1 b2) (start e.bytes s)

theorem Enc.got_a (e : Enc) (b1 b2 : Byte) (s : State) : (e.got b1 b2 s).state.a = s.a := by
  obtain ⟨d, hd, -⟩ := e.readOnly_got b1 b2 s
  rw [hd, start]

theorem Enc.got_p (e : Enc) (b1 b2 : Byte) (s : State) : (e.got b1 b2 s).state.p = s.p := by
  obtain ⟨d, hd, -⟩ := e.readOnly_got b1 b2 s
  rw [hd, start]

/-- `signed8(b)` as 00_scope.md R14 writes it. -/
theorem signed8_eq (b : Byte) : signed8 b = if b.toNat < 128 then (b.toNat : Int) else b.toNat - 256 := by
  rw [signed8, BitVec.toInt_eq_toNat_cond]
  split <;> split <;> omega

/-- Bit 7 is the sign (R14). -/
theorem getLsbD_seven (b : Byte) : b.getLsbD 7 = decide (signed8 b < 0) := by
  rw [signed8, ← BitVec.msb_eq_toInt, BitVec.msb_eq_getLsbD_last]

/-- The complement of m is `-m - 1` (R335). -/
theorem signed8_not (m : Byte) : signed8 (~~~m) = -signed8 m - 1 := by
  have hm := m.isLt
  rw [signed8_eq, signed8_eq, BitVec.toNat_not]
  split <;> split <;> omega

/-- The exact sum of ADC's two operands and C, read as signed numbers (R332). -/
def signedSum (m : Byte) (s : State) : Int := signed8 s.a + signed8 m + (s.p.c.toNat : Int)

section sums
variable (m : Byte) (s : State)

theorem adc_a_toNat : (adc m s).a.toNat = (s.a.toNat + m.toNat + s.p.c.toNat) % 256 := by simp [adc]

theorem adc_c_iff : (adc m s).p.c = true ↔ 256 ≤ s.a.toNat + m.toNat + s.p.c.toNat := by
  simp [adc, nz, Nat.succ_le_iff]

/-- V says that both operands have one sign and the result the other (R330). -/
theorem adc_v_iff_signs : (adc m s).p.v = true ↔
    (signed8 s.a < 0 ↔ signed8 m < 0) ∧ ¬(signed8 s.a < 0 ↔ signed8 (adc m s).a < 0) := by
  have hv : (adc m s).p.v = (~~~(s.a ^^^ m) &&& (s.a ^^^ (adc m s).a)).getLsbD 7 := rfl
  rw [hv, BitVec.getLsbD_and, BitVec.getLsbD_not, BitVec.getLsbD_xor, BitVec.getLsbD_xor]
  simp only [getLsbD_seven]
  simp

/-- The result read as signed is the signed sum where a byte holds it, else 256 away from it. -/
theorem signed8_adc_a_cases :
    (signed8 (adc m s).a = signedSum m s ∧ -128 ≤ signedSum m s ∧ signedSum m s ≤ 127) ∨
      (signed8 (adc m s).a = signedSum m s - 256 ∧ 127 < signedSum m s) ∨
      (signed8 (adc m s).a = signedSum m s + 256 ∧ signedSum m s < -128) := by
  have ha := s.a.isLt
  have hm := m.isLt
  have hc := s.p.c.toNat_le
  rw [signedSum, signed8_eq, signed8_eq, signed8_eq, adc_a_toNat]
  split <;> split <;> split <;> omega

/-- Addends of two signs fit with the carry; those of one sign fit where the result keeps it (R332). -/
theorem adc_v_iff : (adc m s).p.v = true ↔ ¬(-128 ≤ signedSum m s ∧ signedSum m s ≤ 127) := by
  have ha : -128 ≤ signed8 s.a ∧ signed8 s.a < 128 := ⟨BitVec.le_toInt s.a, BitVec.toInt_lt⟩
  have hm : -128 ≤ signed8 m ∧ signed8 m < 128 := ⟨BitVec.le_toInt m, BitVec.toInt_lt⟩
  have hc := s.p.c.toNat_le
  have hsum : signedSum m s = signed8 s.a + signed8 m + s.p.c.toNat := rfl
  rw [adc_v_iff_signs]
  obtain ⟨hr, hfits⟩ | ⟨hr, habove⟩ | ⟨hr, hbelow⟩ := signed8_adc_a_cases m s <;> omega

theorem signed8_adc_a_of_v (hv : (adc m s).p.v = false) : signed8 (adc m s).a = signedSum m s := by
  have hfits := not_not.1 (mt (adc_v_iff m s).2 (by simp [hv]))
  have hr := signed8_adc_a_cases m s
  omega

theorem sbc_a_toNat :
    ((sbc m s).a.toNat : Int) = ((s.a.toNat : Int) - m.toNat - (1 - s.p.c.toNat : Nat)) % 256 := by
  have hm := m.isLt
  have hc := s.p.c.toNat_le
  rw [sbc_eq_adc_not, adc_a_toNat, BitVec.toNat_not]
  omega

theorem sbc_c_iff : (sbc m s).p.c = true ↔ m.toNat + (1 - s.p.c.toNat) ≤ s.a.toNat := by
  have hm := m.isLt
  have hc := s.p.c.toNat_le
  rw [sbc_eq_adc_not, adc_c_iff, BitVec.toNat_not]
  omega

/-- SBC's V, read with M for the complement that is added (R333). -/
theorem sbc_v_eq : (sbc m s).p.v = ((s.a ^^^ m) &&& (s.a ^^^ (sbc m s).a)).getLsbD 7 := by
  have hnot : ~~~(s.a ^^^ ~~~m) = s.a ^^^ m := by rw [BitVec.not_xor_right, BitVec.not_not]
  rw [sbc_eq_adc_not, ← hnot]
  rfl

/-- The signed sum with the complement of M is the signed difference (R333, R341). -/
theorem signedSum_not : signedSum (~~~m) s = signed8 s.a - signed8 m - ((1 - s.p.c.toNat : Nat) : Int) := by
  have hc := s.p.c.toNat_le
  rw [signedSum, signed8_not]
  omega

theorem sbc_v_iff : (sbc m s).p.v = true ↔
    ¬(-128 ≤ signed8 s.a - signed8 m - ((1 - s.p.c.toNat : Nat) : Int) ∧
      signed8 s.a - signed8 m - ((1 - s.p.c.toNat : Nat) : Int) ≤ 127) := by
  rw [sbc_eq_adc_not, adc_v_iff, signedSum_not]

end sums

/-- Settles O23: every ADC is `adc` of its operand and of A and C, which the operand's reads leave as they were. -/
theorem adcIsUnsignedAndSignedAddition : Obligations.AdcIsUnsignedAndSignedAddition := by
  intro e he b1 b2 s
  refine ⟨_, readsTo_adc e he b1 b2 s, ?_⟩
  rw [← e.got_a b1 b2 s, ← e.got_p b1 b2 s]
  exact ⟨adc_a_toNat _ _, adc_c_iff _ _, adc_v_iff _ _, signed8_adc_a_of_v _ _⟩

/-- Settles O24: every SBC is `sbc` of its operand and of A and C, and that is an addition of the complement. -/
theorem sbcIsSubtractionWithBorrow : Obligations.SbcIsSubtractionWithBorrow := by
  intro e he b1 b2 s
  refine ⟨_, readsTo_sbc e he b1 b2 s, ?_⟩
  rw [← e.got_a b1 b2 s, ← e.got_p b1 b2 s]
  exact ⟨sbc_a_toNat _ _, sbc_c_iff _ _, sbc_v_eq _ _, sbc_v_iff _ _⟩

end Sys2Proof.Claims
end

section
/-! PROOFS. The read-modify-write class as the statements list it (30_encoding.md R183, R185), then the increments and decrements
(44_incdec.md R345 to R350). -/

namespace Sys2Proof.Claims

open Sys2Proof.Machine

/-- The model's read-modify-write class on an encoding's operand is what the statements say of such an encoding, where its
byte is the one `f` gives and its flags, set before the write, and its last part together do what `g` does after it. The reads leave C,
so the byte is modified with the C of the start. -/
theorem modifiesTo_of_modifyClass {encs : List Enc} {f : Byte → Bool → Byte} {g : Byte → Byte → State → State}
    {modify : Byte → Flags → Byte × Flags} {finish : Byte → State → State} (hbyte : ∀ v p, (modify v p).1 = f v p.c)
    (heffect : ∀ a v r s, finish r (memWrite a r { s with p := (modify v s.p).2 }) = g v r (memWrite a r s))
    (hform : ∀ e ∈ encs, e.bytes = e.mode.length)
    (hexec : ∀ e ∈ encs, ∀ b1 b2, ∃ m, memOperand e.mode b1 b2 = some m ∧
      ∀ s, exec (decodeOp e.opcode b1 b2) s = modifyClass m e.cycles modify finish s) : ModifiesTo encs f g := by
  intro e he b1 b2 s
  obtain ⟨m, hm, hrun⟩ := hexec e he b1 b2
  have hstart : advancePc (memLength m) s = start e.bytes s := by rw [memLength, memOperand_mode hm, hform e he]; rfl
  have hp : (effAddr m (start e.bytes s)).state.p = s.p := by
    obtain ⟨d, hd, -⟩ := effAddr_readOnly m (start e.bytes s)
    rw [hd, start]
  refine ⟨m, hm, ?_⟩
  rw [hrun, modifyClass, hstart]
  simp only [heffect, hbyte]
  rw [memRead_p, hp]
  rfl

/-- `(v + 1) mod 2^8` as a number is the byte's own increment (00_scope.md R14). -/
theorem ofNat_toNat_add_one_mod (v : Byte) : BitVec.ofNat 8 ((v.toNat + 1) % 256) = v + 1 := by bv_omega

/-- `(v - 1) mod 2^8` as a number is the byte's own decrement (R14). -/
theorem ofNat_toNat_add_255_mod (v : Byte) : BitVec.ofNat 8 ((v.toNat + 255) % 256) = v - 1 := by bv_omega

/-- Settles O26: every form of INC and DEC is the read-modify-write class with the increment or the decrement, which write no flag of
their own, and N and Z after it; the four on X and Y are implied instructions. -/
theorem incrementsAndDecrementsWrap : Obligations.IncrementsAndDecrementsWrap := by
  unfold Obligations.IncrementsAndDecrementsWrap
  simp only [ofNat_toNat_add_one_mod, ofNat_toNat_add_255_mod, ← setNZ_eq_nz]
  refine ⟨modifiesTo_of_modifyClass (finish := flagNZ) increment_fst (fun _ _ _ _ => rfl) (by decide)
      fun e he b1 b2 => ?inc,
    modifiesTo_of_modifyClass (finish := flagNZ) decrement_fst (fun _ _ _ _ => rfl) (by decide)
      fun e he b1 b2 => ?dec,
    oneByte_of_implied ?inx, oneByte_of_implied ?iny, oneByte_of_implied ?dex, oneByte_of_implied ?dey⟩
  case inc | dec => fin_cases he <;> exact ⟨_, rfl, fun _ => rfl⟩
  case inx | iny | dex | dey => exact fun _ _ _ => rfl

end Sys2Proof.Claims
end

section
/-! PROOFS. The logical instructions and BIT (45_logical.md R355 to R358). -/

namespace Sys2Proof.Claims

open Sys2Proof.Machine

theorem setA_eq (r : Byte) (s : State) : setA r s = { s with a := r, p := nz r s.p } := by rw [setA, setNZ_eq_nz]

/-- The statements' flags of BIT are the model's: N and V are the memory byte's own bits, and only Z is of the AND (R358). -/
theorem bitFlags_eq (a m : Byte) (p : Flags) :
    bitFlags a m p = { p with n := m.getLsbD 7, v := m.getLsbD 6, z := decide (a &&& m = 0) } := by
  rw [bitFlags, beq_eq_decide]

/-- Settles O27: every listed form is the read class with its combination put into A, or with BIT's three flags. -/
theorem logicalInstructionsCombineBits : Obligations.LogicalInstructionsCombineBits := by
  unfold Obligations.LogicalInstructionsCombineBits
  simp only [← setA_eq, ← bitFlags_eq]
  refine ⟨readsTo_of_readClass (by decide) fun e he b1 b2 s => ?and, readsTo_of_readClass (by decide) fun e he b1 b2 s => ?ora,
    readsTo_of_readClass (by decide) fun e he b1 b2 s => ?eor, readsTo_of_readClass (by decide) fun e he b1 b2 s => ?bit⟩
  case and | ora | eor | bit => fin_cases he <;> rfl

end Sys2Proof.Claims
end

section
/-! PROOFS. The shifts and rotates (46_shift.md R365 to R368): the statements' four bytes against the model's, then a shift in its
two kinds of mode. -/

namespace Sys2Proof.Claims

open Sys2Proof.Machine

/-- The byte of ASL, which takes no carry in, as a shift of its bits (R365). -/
theorem shiftLeft_one_eq_double (v : Byte) (c : Bool) : v <<< 1 = double v c := by
  rw [double]
  bv_omega

/-- The byte of LSR, which takes no carry in, as a shift of its bits (R366). -/
theorem ushiftRight_one_eq_halve (v : Byte) (c : Bool) : v >>> 1 = halve v c := by
  rw [halve]
  bv_omega

/-- The byte of ROL: the old C enters bit 0 (R367). -/
theorem shiftLeft_one_add_bit_eq_rollLeft (v : Byte) (c : Bool) : (v <<< 1) + bit c = rollLeft v c := by
  have hbit := bit_toNat c
  rw [rollLeft]
  bv_omega

/-- The byte of ROR: the old C enters bit 7, which the halved byte leaves 0 (R368). -/
theorem ushiftRight_one_add_bit_eq_rollRight (v : Byte) (c : Bool) : (v >>> 1) + (bit c <<< 7) = rollRight v c := by
  have hbit := bit_toNat c
  rw [rollRight]
  bv_omega

/-- A write of memory neither looks at the flags nor changes them (20_memory.md R103). -/
theorem memWrite_withFlags (a : Word) (v : Byte) (s : State) (p : Flags) :
    memWrite a v { s with p := p } = { memWrite a v s with p := p } := by
  unfold memWrite
  split <;> rfl

/-- The pointer reads of an operand leave the flags (30_encoding.md R170). -/
@[simp] theorem effAddr_p (m : MemOperand) (s : State) : (effAddr m s).state.p = s.p := by
  obtain ⟨d, hd, -⟩ := effAddr_readOnly m s
  rw [hd]

/-- What a shift does after its write: C is the bit shifted out of the old byte v, N and Z are the result's. -/
def shiftFlags (carry : Byte → Bool) (v r : Byte) (s : State) : State := { s with p := nz r { s.p with c := carry v } }

section shift
variable {opcode : Byte} {encs : List Enc} {f : Byte → Bool → Byte} {carry : Byte → Bool} {modify : Byte → Flags → Byte × Flags}

/-- The model sets C before the write and N and Z after it, which comes to the statements' flags, all set after it. -/
theorem flagNZ_memWrite_eq_shiftFlags (hcarry : ∀ v p, (modify v p).2 = { p with c := carry v }) (a : Word) (v r : Byte)
    (s : State) : flagNZ r (memWrite a r { s with p := (modify v s.p).2 }) = shiftFlags carry v r (memWrite a r s) := by
  rw [hcarry, memWrite_withFlags, shiftFlags, memWrite_p, ← setNZ_eq_nz]
  rfl

/-- The model's shift class is what the statements say of a shift: its one-byte form on A, and the read-modify-write class on each
of its operands in memory. -/
theorem shiftsTo_of_shiftClass (hbyte : ∀ v p, (modify v p).1 = f v p.c)
    (hcarry : ∀ v p, (modify v p).2 = { p with c := carry v }) (hform : ∀ e ∈ encs, e.bytes = e.mode.length)
    (hacc : ∀ b1 b2 s, exec (decodeOp opcode b1 b2) s = shiftClass .acc 2 modify s)
    (hmem : ∀ e ∈ encs, ∀ b1 b2, ∃ m, memOperand e.mode b1 b2 = some m ∧
      ∀ s, exec (decodeOp e.opcode b1 b2) s = shiftClass (.mem m) e.cycles modify s) :
    ShiftsTo (⟨opcode, .acc, 1, 2, false⟩ :: encs) f carry := by
  intro e he b1 b2 s
  obtain rfl | he := List.mem_cons.1 he
  · rw [hacc]
    simp only [shiftClass, implied, hbyte, hcarry, setNZ_eq_nz]
    rfl
  · obtain ⟨m, hm, hrun⟩ := modifiesTo_of_modifyClass hbyte (flagNZ_memWrite_eq_shiftFlags hcarry) hform hmem e he b1 b2 s
    simp only [hm, hrun, shiftFlags, memWrite_p, memRead_p, effAddr_p]
    rfl

end shift

/-- Settles O28: every listed form is the shift class with its own shift, on A and in memory. -/
theorem shiftsMoveOneBitThroughCarry : Obligations.ShiftsMoveOneBitThroughCarry := by
  refine ⟨shiftsTo_of_shiftClass (fun v p => shiftLeft_one_eq_double v p.c) shiftLeft_snd (by decide) (fun _ _ _ => rfl)
      fun e he b1 b2 => ?asl,
    shiftsTo_of_shiftClass (fun v p => ushiftRight_one_eq_halve v p.c) shiftRight_snd (by decide) (fun _ _ _ => rfl)
      fun e he b1 b2 => ?lsr,
    shiftsTo_of_shiftClass (fun v p => shiftLeft_one_add_bit_eq_rollLeft v p.c) rotateLeft_snd (by decide) (fun _ _ _ => rfl)
      fun e he b1 b2 => ?rol,
    shiftsTo_of_shiftClass (fun v p => ushiftRight_one_add_bit_eq_rollRight v p.c) rotateRight_snd (by decide) (fun _ _ _ => rfl)
      fun e he b1 b2 => ?ror⟩
  case asl | lsr | rol | ror => fin_cases he <;> exact ⟨_, rfl, fun _ => rfl⟩

end Sys2Proof.Claims
end

section
/-! PROOFS. The iNES parser (60_exceptions.md R566 to R569): what a file that parses has passed, and what its cartridge holds; and so
when an image is valid. -/

namespace Sys2Proof.Machine

open Sys2Proof.Claims

/-- The tests of R567 and R569 that a valid file passes. -/
structure RomAccepted (file : List Byte) : Prop where
  magic : file.take 4 = romMagic
  banks : (file.getD 4 0).toNat ≠ 0
  fits : requiredLength ((file.getD 6 0).getLsbD 2) (file.getD 4 0).toNat (file.getD 5 0).toNat ≤ file.length
  mapper : inMapperSet (mapperIdOf (file.getD 6 0) (file.getD 7 0)) = true

/-- The cartridge of a file, where it is valid (R566, R568). -/
def romCartridge (file : List Byte) : Cartridge :=
  let prgBanks := (file.getD 4 0).toNat
  let chrBanks := (file.getD 5 0).toNat
  let flags6 := file.getD 6 0
  let trainer := flags6.getLsbD 2
  let prgStart := headerLength + trainerSize * trainer.toNat
  { prgBanks := prgBanks
    chrBanks := chrBanks
    prg := (file.drop prgStart).take (prgBankSize * prgBanks)
    chr := (file.drop (prgStart + prgBankSize * prgBanks)).take (chrBankSize * chrBanks)
    mirroring := mirroringOf flags6
    mapperId := mapperIdOf flags6 (file.getD 7 0)
    trainer := trainer
    battery := flags6.getLsbD 1 }

theorem headerLength_le_requiredLength (trainer : Bool) (prgBanks chrBanks : Nat) :
    headerLength ≤ requiredLength trainer prgBanks chrBanks := by
  simp only [requiredLength]
  omega

/-- A file parses exactly when it passes every test, and then to its own cartridge. -/
theorem parseRom_ok_iff (file : List Byte) (c : Cartridge) :
    parseRom file = .ok c ↔ RomAccepted file ∧ c = romCartridge file := by
  constructor
  · intro h
    unfold parseRom at h
    dsimp only at h
    repeat
      split at h
      · nomatch h
    rename_i hmagic _ hbanks hfits hmapper
    cases h
    exact ⟨⟨not_not.mp hmagic, hbanks, Nat.le_of_not_lt hfits, by simpa using hmapper⟩, rfl⟩
  · rintro ⟨⟨hmagic, hbanks, hfits, hmapper⟩, rfl⟩
    have hheader := (headerLength_le_requiredLength _ _ _).trans hfits
    unfold parseRom
    dsimp only
    rw [if_neg (not_not.mpr hmagic), if_neg hheader.not_gt, if_neg hbanks, if_neg hfits.not_gt, hmapper]
    rfl

theorem romIsValid_iff (file : List Byte) : romIsValid file = true ↔ RomAccepted file := by
  have hparse : romIsValid file = true ↔ ∃ c, parseRom file = .ok c := by
    unfold romIsValid
    cases parseRom file <;> simp
  simp [hparse, parseRom_ok_iff]

theorem Cartridge.wf_iff (c : Cartridge) :
    Cartridge.wf c = true ↔
      0 < c.prgBanks ∧ c.prg.length = prgBankSize * c.prgBanks ∧ c.chr.length = chrBankSize * c.chrBanks := by
  simp [Cartridge.wf, and_assoc]

/-- A valid file is long enough for the banks its header declares (R567). -/
theorem romCartridge_wf {file : List Byte} (h : RomAccepted file) : Cartridge.wf (romCartridge file) = true := by
  have hbanks := h.banks
  have hfits := h.fits
  simp only [requiredLength] at hfits
  simp only [Cartridge.wf_iff, romCartridge, List.length_take, List.length_drop]
  omega

/-- The high nibbles of two bytes, side by side (R568). -/
theorem and_or_shift_eq_nibbles (high low : Byte) :
    (high &&& (0xF0 : Byte)) ||| (low >>> 4) = high.extractLsb' 4 4 ++ low.extractLsb' 4 4 := by
  refine BitVec.eq_of_getLsbD_eq fun k hk => ?_
  rw [BitVec.getLsbD_append, BitVec.getLsbD_or, BitVec.getLsbD_and]
  interval_cases k <;> simp

/-- The mapper ID as a number: the high nibble of flags 7, then the high nibble of flags 6 (R568). -/
theorem mapperIdOf_eq (flags6 flags7 : Byte) : mapperIdOf flags6 flags7 = flags7.toNat / 16 * 16 + flags6.toNat / 16 := by
  have hlow : flags6.toNat / 16 < 2 ^ 4 := by omega
  have hhigh : flags7.toNat / 16 < 2 ^ 4 := by omega
  have hnibbles : mapperIdOf flags6 flags7 = (flags7.extractLsb' 4 4 ++ flags6.extractLsb' 4 4).toNat :=
    congrArg BitVec.toNat (and_or_shift_eq_nibbles flags7 flags6)
  rw [hnibbles, BitVec.toNat_append, BitVec.extractLsb'_toNat, BitVec.extractLsb'_toNat, Nat.shiftRight_eq_div_pow,
    Nat.shiftRight_eq_div_pow, Nat.mod_eq_of_lt hlow, Nat.mod_eq_of_lt hhigh, ← Nat.shiftLeft_add_eq_or_of_lt hlow,
    Nat.shiftLeft_eq]

/-- Settles O57: a file is valid exactly when it passes the parser's tests, and these are the statement's. -/
theorem romValidityIsMagicCountsAndLength : Obligations.RomValidityIsMagicCountsAndLength := by
  refine ⟨fun file => ?valid, fun file c h => ?parsed⟩
  case valid =>
    rw [romIsValid_iff, ← mapperIdOf_eq]
    exact ⟨fun ⟨hmagic, hbanks, hfits, hmapper⟩ => ⟨hmagic, Nat.pos_of_ne_zero hbanks, hfits, hmapper⟩,
      fun ⟨hmagic, hbanks, hfits, hmapper⟩ => ⟨hmagic, hbanks.ne', hfits, hmapper⟩⟩
  case parsed =>
    obtain ⟨haccepted, rfl⟩ := (parseRom_ok_iff file c).mp h
    exact ⟨romCartridge_wf haccepted, rfl, rfl, mapperIdOf_eq _ _⟩

end Sys2Proof.Machine
end

section
/-! PROOFS. The session's operations that can answer a next state, told from it (60_exceptions.md R570 to R573). -/

namespace Sys2Proof.Machine

/-- In a session that is not destroyed the run step is the CPU's step and the advances of its count (R570). -/
theorem sessionStep_of_step {s t : State} (h : s.session.phase ≠ .destroyed) (hstep : step s = .next t) :
    sessionStep s = .next (advanceByCount t) := by
  unfold sessionStep
  split
  case h_1 hdestroyed => exact absurd hdestroyed h
  all_goals rw [hstep]

theorem sessionStep_next {s t : State} (h : sessionStep s = .next t) : ∃ u, step s = .next u ∧ t = advanceByCount u := by
  unfold sessionStep at h
  split at h
  case h_1 => nomatch h
  case h_2 | h_3 | h_4 | h_5 =>
    cases hstep : step s with
    | next u =>
      rw [hstep] at h
      cases h
      exact ⟨u, rfl, rfl⟩
    | fault f => simp [hstep] at h
    | refused r => simp [hstep] at h

/-- A ROM load that answers a next state has parsed the file, and resets everything with its cartridge loaded (R601). -/
theorem loadRom_next {r : ResetRegs} {init : MemInit} {file : List Byte} {s t : State}
    (h : loadRom r init file s = .next t) :
    ∃ c, parseRom file = .ok c ∧
      t = resetComponents r init c
        { s with
          dev := { recordEvent s.dev .loaded with cart := some c }
          session := { s.session with phase := .loaded } } := by
  unfold loadRom at h
  split at h
  case h_1 | h_2 => nomatch h
  case h_3 | h_4 | h_5 =>
    cases hparse : parseRom file with
    | ok c =>
      rw [hparse] at h
      cases h
      exact ⟨c, rfl, rfl⟩
    | error f => simp [hparse] at h

/-- A session reset that answers a next state resets everything with the cartridge that is loaded (R601). -/
theorem sessionReset_next {r : ResetRegs} {init : MemInit} {s t : State} (h : sessionReset r init s = .next t) :
    ∃ c, t = resetComponents r init c s := by
  unfold sessionReset at h
  split at h
  case h_1 | h_2 | h_3 =>
    cases h
    exact ⟨_, rfl⟩
  case h_4 => nomatch h

theorem startEmulation_next {s t : State} (h : startEmulation s = .next t) :
    t = beginExecution { s with session := { s.session with phase := .running } } := by
  unfold startEmulation at h
  split at h
  case h_1 | h_2 | h_3 => exact (Host.Outcome.next.inj h).symm
  case h_4 | h_5 => nomatch h

theorem cpuLoad_next {block : List Byte} {origin : Option Cartridge} {s t : State}
    (h : cpuLoad block origin s = .next t) : cpuDeserialize block s = some t := by
  unfold cpuLoad at h
  split at h
  · nomatch h
  split at h
  · nomatch h
  cases hload : cpuDeserialize block s with
  | none => simp [hload] at h
  | some u =>
    rw [hload] at h
    cases h
    rfl

end Sys2Proof.Machine
end

section
/-! PROOFS. The invariant over the host's calls (60_exceptions.md R570 to R573, 70_reset_and_hazards.md R601, 20_memory.md R113). -/

namespace Sys2Proof.Machine

open Sys2Proof.Claims

/-- The invariant looks at no device but the memories, the PPU's place and kept sprites, and the cartridge. -/
theorem Inv_of_same {s t : State} (h : s.Inv) (hram : t.ram = s.ram) (hregion : t.session.region = s.session.region)
    (hvram : t.dev.vram = s.dev.vram) (hoam : t.dev.oam = s.dev.oam) (hcart : t.dev.cart = s.dev.cart)
    (htiming : t.dev.ppu.timing = s.dev.ppu.timing) (hsprites : t.dev.ppu.lineSprites = s.dev.ppu.lineSprites) : t.Inv := by
  obtain ⟨hs, hdev⟩ := h
  refine ⟨hram ▸ hs, ?_⟩
  rw [Devices.wf_iff] at hdev ⊢
  rwa [hregion, hvram, hoam, hcart, htiming, hsprites]

theorem advanceByCount_inv {s : State} (h : s.Inv) : (advanceByCount s).Inv := by
  unfold advanceByCount
  split
  · exact advanceDevices_inv _ h
  · exact h

theorem sessionStep_inv {s t : State} (hs : s.Inv) (h : sessionStep s = .next t) : t.Inv := by
  obtain ⟨u, hstep, rfl⟩ := sessionStep_next h
  exact advanceByCount_inv (stepKeepsTheMachineInForm s u hs hstep)

/-- The loaded cartridge holds the banks it declares, and all else is reset (R601). -/
theorem loadRom_inv {r : ResetRegs} {init : MemInit} {file : List Byte} {s t : State} (hs : s.Inv)
    (h : loadRom r init file s = .next t) : t.Inv := by
  obtain ⟨c, hparse, rfl⟩ := loadRom_next h
  obtain ⟨haccepted, rfl⟩ := (parseRom_ok_iff file c).mp hparse
  obtain ⟨hram, hdev⟩ := hs
  obtain ⟨hvram, hoam, hframe, hsprites, -⟩ := (Devices.wf_iff _ _).mp hdev
  refine resetComponents_inv _ _ _ ⟨hram, (Devices.wf_iff _ _).mpr ⟨hvram, hoam, hframe, hsprites, fun c hc => ?_⟩⟩
  cases hc
  exact romCartridge_wf haccepted

/-- A restored state's memories are canonical, and its PPU block was read as one of the frame (R571). -/
theorem stateLoad_inv {b : SaveState} {s t : State} (hs : s.Inv) (h : stateLoad b s = .next t) : t.Inv := by
  obtain ⟨-, -, k, u, hload, hppu, rfl⟩ := stateLoad_next h
  obtain ⟨-, hdev, hsession, -⟩ := cpuDeserialize_rest hload
  obtain ⟨-, hwf⟩ := hs
  obtain ⟨-, -, -, -, hcart⟩ := (Devices.wf_iff _ _).mp hwf
  simp only [goodPpu, Bool.and_eq_true, decide_eq_true_eq] at hppu
  refine ⟨Memory.wf_ofBytes _ _, (Devices.wf_iff _ _).mpr ⟨Memory.wf_ofBytes _ _, Memory.wf_ofBytes _ _, ?_, hppu.2, ?_⟩⟩
  · simp only [replaceBlocks, hsession]
    exact hppu.1
  · simp only [replaceBlocks, recordEvent, hdev]
    exact hcart

theorem constructSession_inv (region : Region) (r : ResetRegs) (init : MemInit) (s : State) :
    (constructSession region r init s).Inv := by
  have hfresh : Devices.wf region { Devices.initial with events := .constructed :: s.dev.events } = true :=
    (Devices.wf_iff _ _).mpr ((Devices.wf_iff _ _).mp (initial_wf region))
  exact cpuReset_inv r ⟨Memory.wf_ofBytes _ _, apuReset_wf (ppuReset_wf hfresh init)⟩

theorem destroySession_inv {s : State} (h : s.Inv) : (destroySession s).Inv := by
  obtain ⟨-, hdev⟩ := h
  obtain ⟨-, -, hrest⟩ := (Devices.wf_iff _ _).mp hdev
  exact ⟨Memory.wf_nil _, (Devices.wf_iff _ _).mpr ⟨Memory.wf_nil _, Memory.wf_nil _, hrest⟩⟩

/-- Settles O53, call by call. -/
theorem hostCallsKeepTheMachineInForm : Obligations.HostCallsKeepTheMachineInForm := by
  intro c s t hs hcall
  obtain ⟨-, hmake⟩ := hostCall_next hcall
  cases c
  case stepOneInstruction => exact stepKeepsTheMachineInForm s t hs hmake
  case sessionStep => exact sessionStep_inv hs hmake
  case loadRom r init file => exact loadRom_inv hs hmake
  case sessionReset r init =>
    obtain ⟨c, rfl⟩ := sessionReset_next hmake
    exact resetComponents_inv r init c hs
  case stateLoad b => exact stateLoad_inv hs hmake
  case deserialize block origin =>
    obtain ⟨hram, hdev, hsession, -⟩ := cpuDeserialize_rest (cpuLoad_next hmake)
    exact Inv_congr hs hram hdev hsession
  case startEmulation =>
    rw [startEmulation_next hmake]
    exact Inv_of_same hs rfl rfl rfl rfl rfl rfl rfl
  case cpuReset r =>
    cases hmake
    exact cpuReset_inv r hs
  case construct region r init =>
    cases hmake
    exact constructSession_inv region r init s
  case destroy =>
    cases hmake
    exact destroySession_inv hs
  case beginExecution | endExecution | requestNmi | requestIrq | stopEmulation | setButtons | setMirroring | setApuRunning
      | writeBuffer =>
    cases hmake
    exact Inv_of_same hs rfl rfl rfl rfl rfl rfl rfl

end Sys2Proof.Machine
end

section
/-! PROOFS. The halt (60_exceptions.md R500, R582, 10_state.md R62): a halted CPU has no step, and no other call of the host's but those
that rewrite the CPU ends the halt. -/

namespace Sys2Proof.Machine

open Sys2Proof.Claims

/-- A halted CPU has no step (R62). -/
theorem step_of_halted {s : State} (h : s.halted = true) : step s = .fault .noStep := by
  simp [step, isRunning, h]

/-- What a call that does not rewrite the CPU leaves of a halted one. -/
structure HaltKept (s t : State) : Prop where
  halted : t.halted = true
  regs : sameRegs s t

theorem HaltKept.trans {s t u : State} (h : HaltKept s t) (k : HaltKept t u) : HaltKept s u := by
  obtain ⟨-, ha, hx, hy, hsp, hpc, hp⟩ := h
  obtain ⟨khalted, ka, kx, ky, ksp, kpc, kp⟩ := k
  exact ⟨khalted, ka.trans ha, kx.trans hx, ky.trans hy, ksp.trans hsp, kpc.trans hpc, kp.trans hp⟩

/-- One call: the steps do not happen, and every other call leaves the registers and `halted` (10_state.md R65). -/
theorem hostCall_of_halted {c : HostCall} {s t : State} (hs : s.halted = true) (hc : rewritesCpu c = false)
    (hcall : hostCall c s = .next t) : HaltKept s t ∧ (c ≠ .destroy → t.ram = s.ram) := by
  obtain ⟨-, hmake⟩ := hostCall_next hcall
  have hstep := step_of_halted hs
  have hnoStep : c ≠ .stepOneInstruction := by
    rintro rfl
    nomatch hstep.symm.trans hmake
  have hnoSession : c ≠ .sessionStep := by
    rintro rfl
    obtain ⟨u, hu, -⟩ := sessionStep_next hmake
    nomatch hstep.symm.trans hu
  obtain ⟨hregs, hhalted, hram⟩ := onlyTheStepWritesRegisters c s t hc hnoStep hnoSession hcall
  exact ⟨⟨hhalted.trans hs, hregs⟩, hram⟩

theorem runCalls_cons {c : HostCall} {cs : List HostCall} {s t : State} (h : runCalls (c :: cs) s = .next t) :
    ∃ u, hostCall c s = .next u ∧ runCalls cs u = .next t := by
  cases hcall : hostCall c s with
  | next u => exact ⟨u, rfl, by simpa [runCalls, hcall] using h⟩
  | fault f => simp [runCalls, hcall] at h
  | refused r => simp [runCalls, hcall] at h

/-- A list of calls: by induction over it. -/
theorem runCalls_of_halted {calls : List HostCall} {s t : State} (hs : s.halted = true)
    (hcalls : ∀ c ∈ calls, rewritesCpu c = false) (hrun : runCalls calls s = .next t) :
    HaltKept s t ∧ (.destroy ∉ calls → t.ram = s.ram) := by
  induction calls generalizing s with
  | nil =>
    cases hrun
    exact ⟨⟨hs, sameRegs_refl _⟩, fun _ => rfl⟩
  | cons c cs ih =>
    obtain ⟨hc, hcs⟩ := List.forall_mem_cons.mp hcalls
    obtain ⟨u, hcall, hrest⟩ := runCalls_cons hrun
    obtain ⟨hkept, hram⟩ := hostCall_of_halted hs hc hcall
    obtain ⟨hkept', hram'⟩ := ih hkept.halted hcs hrest
    refine ⟨hkept.trans hkept', fun hnot => ?_⟩
    obtain ⟨hne, hnot'⟩ := List.ne_and_not_mem_of_not_mem_cons hnot
    exact (hram' hnot').trans (hram hne.symm)

/-- Settles O49: the halt is kept along the calls, and a halted CPU neither runs nor steps. -/
theorem haltLastsUntilReset : Obligations.HaltLastsUntilReset := by
  intro calls s t hs hcalls hrun
  obtain ⟨⟨hhalted, hregs⟩, hram⟩ := runCalls_of_halted hs hcalls hrun
  exact ⟨hhalted, by simp [isRunning, hhalted], step_of_halted hhalted, hregs, hram⟩

end Sys2Proof.Machine
end

section
/-! PROOFS. The mappers (60_exceptions.md R562, R563): mapper 0's fixed windows, and the one window a bank-select changes. -/

namespace Sys2Proof.Machine

open Sys2Proof.Claims

section mapperZero
variable {d : Devices} {c : Cartridge} (hcart : d.cart = some c) (hmapper : c.mapperId = 0)
include hcart hmapper

/-- Mapper 0 answers every access at $8000 and above (R562). -/
theorem fixedBank?_eq_some {a : Word} (ha : 0x8000 ≤ a.toNat) : fixedBank? d a = some c := by
  simp [fixedBank?, hcart, hmapper, ha]

theorem busRead_fixed {a : Word} (ha : 0x8000 ≤ a.toNat) : busRead d a = (prgByte c a, d) := by
  rw [busRead, fixedBank?_eq_some hcart hmapper ha]

theorem busWrite_fixed {a : Word} (ha : 0x8000 ≤ a.toNat) (v : Byte) : busWrite d a v = (false, d) := by
  rw [busWrite, fixedBank?_eq_some hcart hmapper ha]

/-- The one CHR bank is the PPU's pattern data (R562). -/
theorem patternRead_fixed {k : Nat} (hbanks : 0 < c.chrBanks) (hk : k < 0x2000) : patternRead d k = c.chr.getD k 0 := by
  simp [patternRead, hcart, hmapper, hbanks, Nat.mod_eq_of_lt hk]

end mapperZero

/-- A byte that stands in a list is the one looked up there. -/
theorem getElem?_eq_getD {bytes : List Byte} {k : Nat} (h : k < bytes.length) : bytes[k]? = some (bytes.getD k 0) := by
  rw [List.getElem?_eq_getElem h, List.getD_eq_getElem _ _ h]

/-- The PRG byte at an address stands in the declared banks (R562, R567). -/
theorem getElem?_prgByte {c : Cartridge} (hwf : Cartridge.wf c = true) (a : Word) :
    c.prg[(a.toNat - 0x8000) % (16384 * c.prgBanks)]? = some (prgByte c a) := by
  obtain ⟨hbanks, hprg, -⟩ := (Cartridge.wf_iff c).mp hwf
  refine getElem?_eq_getD ?_
  rw [hprg]
  exact Nat.mod_lt _ (Nat.mul_pos (by decide) hbanks)

/-- Settles O11: the accesses are mapper 0's, and the banks are long enough for the byte to be one of them. -/
theorem mapperZeroShowsFixedBanks : Obligations.MapperZeroShowsFixedBanks := by
  intro s c a hcart hmapper hwf ha
  have hbus : isRam a = false := by simp [isRam]; omega
  have hpeek : peek a s = prgByte c a := by rw [peek_bus hbus, busRead_fixed hcart hmapper ha]
  have hprg := getElem?_prgByte hwf a
  have hlt := a.isLt
  obtain ⟨-, -, hchr⟩ := (Cartridge.wf_iff c).mp hwf
  rw [hpeek]
  refine ⟨fun v => ?write, ?read, hprg, fun hone => ?one, fun htwo hlow => ?first, fun htwo hhigh => ?second,
    fun hone k hk => ?chr⟩
  case write =>
    rw [memWrite_bus hbus, busWrite_fixed hcart hmapper ha, Bool.or_false]
  case read => rw [memRead_bus hbus, busRead_fixed hcart hmapper ha]
  case one => rwa [hone] at hprg
  case first =>
    have hin : (a.toNat - 0x8000) % (16384 * 2) = a.toNat - 0x8000 := by omega
    simpa only [htwo, hin] using hprg
  case second =>
    have hin : (a.toNat - 0x8000) % (16384 * 2) = 16384 + (a.toNat - 0xC000) := by omega
    simpa only [htwo, hin] using hprg
  case chr =>
    rw [patternRead_fixed hcart hmapper (by omega) hk]
    refine getElem?_eq_getD ?_
    rw [hchr, hone]
    exact hk

/-- What an answer of the free Bus makes of the mapper is what its mapper's side does to it: the writes of VRAM and OAM and the new
latches and channels do not touch it (20_memory.md R107). -/
theorem applyReply_mapper (d : Devices) (e : BusEvent) (r : BusReply) :
    (applyReply d e r).mapper = (applyMapper d r.mapper).mapper := by
  unfold applyReply
  obtain ⟨vm, hv, -⟩ := foldl_vramWrite r.vramWrites d
  obtain ⟨om, ho, -⟩ := foldl_oamWrite r.oamWrites { d with vram := vm }
  simp only [hv, ho, applyMapper]
  split
  · split <;> rfl
  · rfl

/-- With no cartridge, and with mapper 0, a bus write leaves the mapper as it is (R562). -/
theorem busWrite_mapper_fixed {d : Devices} (h : ∀ c, d.cart = some c → c.mapperId = 0) (a : Word) (v : Byte) :
    (busWrite d a v).2.mapper = d.mapper := by
  rcases busWrite_cases d a v with ⟨c, -, hwrite⟩ | ⟨-, hwrite⟩ <;> rw [hwrite]
  rw [applyReply_mapper, applyMapper]
  split
  · rw [if_pos (h _ ‹_›)]
  · rfl

/-- With another mapper a bus write leaves each table as its bank-select does (R561, R563). -/
theorem busWrite_tables {d : Devices} {c : Cartridge} (hcart : d.cart = some c) (hmapper : c.mapperId ≠ 0) (a : Word)
    (v : Byte) :
    let sel := (Config.busReply d (.write a v)).mapper.select
    (busWrite d a v).2.mapper.prgTable = selectBank .prg d.mapper.prgTable sel ∧
      (busWrite d a v).2.mapper.chrTable = selectBank .chr d.mapper.chrTable sel := by
  have hfree : fixedBank? d a = none := by simp [fixedBank?, hcart, hmapper]
  simp only [busWrite, hfree, applyReply_mapper, applyMapper, hcart, if_neg hmapper, and_self]

theorem selectBank_not_addressed {space : BankSpace} (table : List Nat) {sel : Option BankSelect} {k : Nat}
    (h : addressed sel space k = false) : (selectBank space table sel)[k]? = table[k]? := by
  refine selectBank_other table fun b hb hspace hk => ?_
  subst hb
  simp [addressed, hspace, hk] at h

/-- The window a bank-select addresses shows the selected bank, and any other keeps its own (R563). -/
theorem selectBank_getElem? (space : BankSpace) (table : List Nat) (sel : Option BankSelect) {k : Nat} (hk : k < table.length) :
    (selectBank space table sel)[k]? = if addressed sel space k then sel.map BankSelect.bank else table[k]? := by
  split
  case isTrue h =>
    cases sel with
    | none => nomatch h
    | some b =>
      obtain ⟨rfl, rfl⟩ : b.space = space ∧ b.window = k := by simpa [addressed] using h
      exact selectBank_addressed table b hk
  case isFalse h => exact selectBank_not_addressed table (by simpa using h)

/-- Settles O12, by whether the cartridge has a bank-select. -/
theorem bankSelectChangesOneWindow : Obligations.BankSelectChangesOneWindow := by
  intro d a v
  dsimp only
  generalize hsel : (Config.busReply d (.write a v)).mapper.select = sel
  by_cases h : ∀ c, d.cart = some c → c.mapperId = 0
  · rw [busWrite_mapper_fixed h]
    exact ⟨fun _ _ => rfl, fun _ _ => rfl, fun _ => ⟨rfl, rfl⟩, fun c hc hne => absurd (h c hc) hne⟩
  · push Not at h
    obtain ⟨c, hcart, hmapper⟩ := h
    obtain ⟨hprg, hchr⟩ := busWrite_tables hcart hmapper a v
    rw [hprg, hchr, hsel]
    exact ⟨fun k => selectBank_not_addressed _, fun k => selectBank_not_addressed _,
      fun h => absurd (h c hcart) hmapper, fun _ _ _ => ⟨fun k => selectBank_getElem? _ _ _, fun k => selectBank_getElem? _ _ _⟩⟩

end Sys2Proof.Machine
end

section
/-! PROOFS. Control flow (47_control.md R375 to R378): the jumps, the call and the return, and a return right after a call. -/

namespace Sys2Proof.Claims

open Sys2Proof.Machine

/-- The pointer's second byte stands in the page of the first: its address never carries (30_encoding.md R178). -/
theorem pointerHigh_word (hi lo : Byte) :
    word (hi8 (word hi lo)) (lo8 (word hi lo) + 1) = word hi (BitVec.ofNat 8 ((lo.toNat + 1) % 256)) := by
  rw [hi8_word, lo8_word, ofNat_toNat_add_one_mod]

theorem execJmpInd_eq (w : Word) (s : State) :
    execJmpInd w s =
      let lo := memRead w (start 3 s)
      let hi := memRead (word (hi8 w) (lo8 w + 1)) lo.2
      .next { hi.2 with pc := word hi.1 lo.1, cycles := some 5 } := rfl

/-- JSR pushes the address of its last byte and jumps (R376). -/
theorem execJsr_eq (w : Word) (s : State) :
    execJsr w s = .next { pushWord (s.pc + 2) s with pc := w, cycles := some 6 } := by
  have hret : s.pc + 3 - 1 = s.pc + 2 := by bv_omega
  have hpc : (advancePc 3 s).pc - 1 = s.pc + 2 := hret
  simp only [execJsr, hpc, pushWord_eq]
  rfl

/-- RTS pulls a word and adds 1 to it (R377). -/
theorem execRts_eq (s : State) :
    execRts s = .next { (pullWord s).2 with pc := (pullWord s).1 + 1, cycles := some 6 } := by
  simp only [execRts, implied, pullWord_eq]
  rfl

/-- Settles O29, opcode by opcode. -/
theorem jumpsCallsAndReturns : Obligations.JumpsCallsAndReturns := by
  intro b1 b2 s
  refine ⟨rfl, ?_, execJsr_eq _ s, execRts_eq s⟩
  rw [← pointerHigh_word]
  exact execJmpInd_eq (word b2 b1) s

/-- A stack byte that a write of another leaves alone (20_memory.md R117). -/
theorem read_write_stack_other {i j : Byte} (h : j ≠ i) (m : Memory) (v : Byte) :
    Memory.read (Memory.write m (0x100 + i.toNat) v) (0x100 + j.toNat) = Memory.read m (0x100 + j.toNat) := by
  refine Memory.read_write_other _ _ _ _ fun hslot => h (BitVec.eq_of_toNat_eq ?_)
  omega

/-- What two pushes put on the stack two pulls take off it, from any SP (R117). -/
theorem pullWord_of_pushed {w : Word} {s t : State} (hram : t.ram = (pushWord w s).ram) (hsp : t.sp = s.sp - 2) :
    pullWord t = (w, { t with sp := s.sp }) := by
  have hhigh : t.sp + 2 = s.sp := by rw [hsp, sub_add_cancel]
  have hlow : t.sp + 1 = s.sp - 1 := by rw [hsp]; bv_omega
  have hne : s.sp ≠ s.sp - 1 := by bv_omega
  rw [pullWord_eq, hhigh, hlow, hram, pushWord_eq, read_write_stack_other hne, Memory.read_write_same,
    Memory.read_write_same, word_hi8_lo8]

/-- RTS where a word was pushed goes one past it (R377). -/
theorem execRts_of_pushed {w : Word} {s t : State} (hram : t.ram = (pushWord w s).ram) (hsp : t.sp = s.sp - 2) :
    execRts t = .next { t with sp := s.sp, pc := w + 1, cycles := some 6 } := by
  rw [execRts_eq, pullWord_of_pushed hram hsp]

/-- Settles O30: RTS takes off the stack what JSR put there, and adds the 1 that JSR left out. -/
theorem returnGoesBackBehindTheCall : Obligations.ReturnGoesBackBehindTheCall := by
  intro w s
  have hsp : (pushWord (s.pc + 2) s).sp = s.sp - 2 := by rw [pushWord_eq]
  have hpc : s.pc + 2 + 1 = s.pc + 3 := by bv_omega
  refine ⟨_, _, execJsr_eq w s, rfl, execRts_of_pushed (w := s.pc + 2) rfl hsp, hpc, rfl, ?_⟩
  simp only [pushWord_eq, and_self]

end Sys2Proof.Claims
end

section
/-! PROOFS. The flag instructions and NOP (48_flags_system.md R400 to R408), BRK and RTI (R409, R410), and interrupt entry and return
(60_exceptions.md R510, R519 to R521, R530). -/

namespace Sys2Proof.Claims

open Sys2Proof.Machine

/-- Settles O32: each opcode is an implied instruction that sets or clears its flag. -/
theorem flagInstructionsSetOneFlag : Obligations.FlagInstructionsSetOneFlag := by
  refine ⟨oneByte_of_implied ?clc, oneByte_of_implied ?sec, oneByte_of_implied ?cli, oneByte_of_implied ?sei,
    oneByte_of_implied ?cld, oneByte_of_implied ?sed, oneByte_of_implied ?clv, oneByte_of_implied ?nop⟩
  case clc | sec | cli | sei | cld | sed | clv | nop => exact fun _ _ _ => rfl

/-- The state in which an entry reads its vector is the three pushes, then I set (60_exceptions.md R519). -/
theorem entryFrame_eq_pushes (ret : Word) (b : Bool) (s : State) :
    entryFrame ret b s =
      let t := push (packP b s.p) (push (lo8 ret) (push (hi8 ret) s))
      { t with p := { t.p with i := true } } := by
  have h2 : s.sp - 1 - 1 = s.sp - 2 := by bv_omega
  have h3 : s.sp - 2 - 1 = s.sp - 3 := by bv_omega
  simp only [entryFrame, push_eq, h2, h3]

theorem read16_advancePc (a : Word) (n : Nat) (s : State) :
    read16 a (advancePc n s) = ((read16 a s).1, advancePc n (read16 a s).2) := by
  simp only [read16, memRead_advancePc]

/-- An entry looks at the return address it is given, not at PC, which it replaces. -/
theorem enterInterrupt_advancePc (vector ret : Word) (b : Bool) (n : Nat) (s : State) :
    enterInterrupt vector ret b (advancePc n s) = enterInterrupt vector ret b s := by
  have hframe : entryFrame ret b (advancePc n s) = advancePc n (entryFrame ret b s) := rfl
  rw [enterInterrupt_eq, enterInterrupt_eq, hframe, read16_advancePc]
  rfl

/-- BRK is an interrupt entry that returns behind its signature byte, with B = 1 (R409). -/
theorem execBrk_eq (s : State) :
    execBrk s = .next { enterInterrupt irqVector (s.pc + 2) true s with cycles := some 7 } := by
  have hret : s.pc + 1 + 1 = s.pc + 2 := by bv_omega
  have hentry : enterInterrupt irqVector ((advancePc 1 s).pc + 1) true (advancePc 1 s) =
      enterInterrupt irqVector (s.pc + 2) true s := by rw [enterInterrupt_advancePc, ← hret]; rfl
  simp only [execBrk, implied, hentry]
  rfl

/-- BRK's vector reads, in the state its entry has made (R409, 20_memory.md R105). -/
theorem execBrk_of_frame {s f : State} (hf : f = entryFrame (s.pc + 2) true s) :
    execBrk s =
      let lo := memRead 0xFFFE f
      let hi := memRead 0xFFFF lo.2
      .next { hi.2 with pc := word hi.1 lo.1, cycles := some 7 } := by
  rw [execBrk_eq, enterInterrupt_eq, hf]
  rfl

/-- RTI is a return from interrupt, whatever PC is (R410). -/
theorem execRti_eq (s : State) : execRti s = .next { returnFromInterrupt s with cycles := some 6 } := by
  simp only [execRti, implied, returnFromInterrupt_eq]
  rfl

/-- Settles O33: BRK as an entry through $FFFE, its frame written as three pushes; RTI as three pulls. -/
theorem brkEntersAndRtiReturns : Obligations.BrkEntersAndRtiReturns := by
  intro b1 b2 s
  refine ⟨?brk, ?rti⟩
  case brk =>
    exact execBrk_of_frame (entryFrame_eq_pushes (s.pc + 2) true s).symm
  case rti =>
    have h2 : s.sp + 1 + 1 = s.sp + 2 := by bv_omega
    have h3 : s.sp + 2 + 1 = s.sp + 3 := by bv_omega
    refine (execRti_eq s).trans ?_
    simp only [returnFromInterrupt_eq, pull_eq, h2, h3]

/-- A return takes off the stack what an entry put there, from any SP (60_exceptions.md R530). -/
theorem returnFromInterrupt_of_entered {ret : Word} {b : Bool} {s t : State} (hram : t.ram = (entryFrame ret b s).ram)
    (hsp : t.sp = s.sp - 3) : returnFromInterrupt t = { t with p := s.p, sp := s.sp, pc := ret } := by
  have h1 : t.sp + 1 = s.sp - 2 := by rw [hsp]; bv_omega
  have h2 : t.sp + 2 = s.sp - 1 := by rw [hsp]; bv_omega
  have h3 : t.sp + 3 = s.sp := by rw [hsp, sub_add_cancel]
  have h01 : s.sp ≠ s.sp - 1 := by bv_omega
  have h02 : s.sp ≠ s.sp - 2 := by bv_omega
  have h12 : s.sp - 1 ≠ s.sp - 2 := by bv_omega
  rw [returnFromInterrupt_eq, h1, h2, h3, hram]
  simp only [entryFrame, read_write_stack_other h01, read_write_stack_other h02, read_write_stack_other h12,
    Memory.read_write_same, unpackP_packP, word_hi8_lo8]

/-- What an interrupt entry is, field by field: RAM as the three pushes leave it, PC and the devices as the vector's reads after them do
(R519). -/
structure Entered (vector ret : Word) (b : Bool) (s t : State) : Prop where
  ram : t.ram = (entryFrame ret b s).ram
  sp : t.sp = s.sp - 3
  p : t.p = { s.p with i := true }
  pc : t.pc = (read16 vector (entryFrame ret b s)).1
  dev : t.dev = (read16 vector (entryFrame ret b s)).2.dev
  a : t.a = s.a
  x : t.x = s.x
  y : t.y = s.y
  nmiPending : t.nmiPending = s.nmiPending
  irqPending : t.irqPending = s.irqPending
  halted : t.halted = s.halted
  session : t.session = s.session

theorem enterInterrupt_entered (vector ret : Word) (b : Bool) (s : State) :
    Entered vector ret b s (enterInterrupt vector ret b s) := by
  obtain ⟨d, hread, -⟩ := read16_state vector (entryFrame ret b s)
  rw [enterInterrupt_eq, hread]
  exact ⟨rfl, rfl, rfl, rfl, by rw [hread], rfl, rfl, rfl, rfl, rfl, rfl, rfl⟩

theorem Entered.withCount {vector ret : Word} {b : Bool} {s t : State} (h : Entered vector ret b s t) (n : Option Nat) :
    Entered vector ret b s { t with cycles := n } :=
  ⟨h.ram, h.sp, h.p, h.pc, h.dev, h.a, h.x, h.y, h.nmiPending, h.irqPending, h.halted, h.session⟩

/-- The three bytes of an entry, read back (R519). -/
theorem Entered.peek_stack {vector ret : Word} {b : Bool} {s t : State} (h : Entered vector ret b s t) :
    peek (stackAddr s.sp) t = hi8 ret ∧ peek (stackAddr (s.sp - 1)) t = lo8 ret ∧
      peek (stackAddr (s.sp - 2)) t = packP b s.p := by
  have h01 : s.sp ≠ s.sp - 1 := by bv_omega
  have h02 : s.sp ≠ s.sp - 2 := by bv_omega
  have h12 : s.sp - 1 ≠ s.sp - 2 := by bv_omega
  simp only [peek_ram (isRam_stackAddr _), ramIndex_stackAddr, h.ram, entryFrame, read_write_stack_other h01,
    read_write_stack_other h02, read_write_stack_other h12, Memory.read_write_same, and_self]

/-- Settles O47: an entry by its fields, its stack bytes and its frame; the poll by its three cases. -/
theorem interruptEntryPushesAndVectors : Obligations.InterruptEntryPushesAndVectors := by
  refine ⟨fun vector s => ?entry, fun s => ⟨fun hnmi => ?nmi, fun hnmi hirq hi => ?irq, poll_of_quiet⟩⟩
  case entry =>
    have h := enterInterrupt_entered vector s.pc false s
    obtain ⟨hhigh, hlow, hflags⟩ := h.peek_stack
    exact ⟨⟨entryFrame s.pc false s, h.ram.symm, rfl, h.pc, h.dev⟩, h.sp, h.p, h.a, h.x, h.y, hhigh, hlow, hflags,
      (enterInterrupt_pushedOnly vector s.pc false s).ram⟩
  case nmi =>
    have hpoll := poll_eq s
    rw [if_pos hnmi] at hpoll
    have h := enterInterrupt_entered 0xFFFA s.pc false { s with nmiPending := false }
    rw [hpoll]
    exact ⟨rfl, h.irqPending, h.nmiPending⟩
  case irq =>
    have hpoll := poll_eq s
    rw [if_neg (by simp [hnmi]), if_pos ⟨hirq, hi⟩] at hpoll
    rw [hpoll]
    exact ⟨rfl, (enterInterrupt_entered 0xFFFE s.pc false { s with irqPending := false }).irqPending⟩

/-- RTI right after an entry goes back to its return address (R530). -/
theorem execRti_of_entered {vector ret : Word} {b : Bool} {s t : State} (h : Entered vector ret b s t) :
    ∃ u, exec .rti t = .next u ∧ u.pc = ret ∧ u.p = s.p ∧ u.sp = s.sp ∧ u.a = s.a ∧ u.x = s.x ∧ u.y = s.y := by
  refine ⟨_, execRti_eq t, ?_⟩
  rw [returnFromInterrupt_of_entered h.ram h.sp]
  exact ⟨rfl, rfl, rfl, h.a, h.x, h.y⟩

/-- Settles O48: an entry and BRK, which is one up to the count, each as `Entered`. -/
theorem rtiUndoesAnInterruptEntry : Obligations.RtiUndoesAnInterruptEntry := by
  refine ⟨fun vector b s => execRti_of_entered (enterInterrupt_entered vector s.pc b s), fun s => ?brk⟩
  case brk =>
    obtain ⟨u, hu⟩ := execRti_of_entered ((enterInterrupt_entered irqVector (s.pc + 2) true s).withCount (some 7))
    exact ⟨_, u, execBrk_eq s, hu⟩

end Sys2Proof.Claims
end

section
/-! PROOFS. The undocumented instructions (49_undocumented.md R421 to R442): the read class, the combined read-modify-writes, and the
opcodes that halt. -/

namespace Sys2Proof.Claims

open Sys2Proof.Machine

theorem readsTo_append {encs encs' : List Enc} {f : Byte → State → State} (h : ReadsTo encs f) (h' : ReadsTo encs' f) :
    ReadsTo (encs ++ encs') f := by
  intro e he
  exact (List.mem_append.mp he).elim (h e) (h' e)

/-- A NOP without an operand byte does nothing, as one that discards its operand byte (R421). -/
theorem readsTo_of_implied {encs : List Enc} (hform : ∀ e ∈ encs, e.mode = .imp ∧ e.bytes = 1 ∧ e.plus = false)
    (hexec : ∀ e ∈ encs, ∀ b1 b2 s, exec (decodeOp e.opcode b1 b2) s = implied e.cycles id s) :
    ReadsTo encs (fun _ s => s) := by
  intro e he b1 b2 s
  obtain ⟨hmode, hbytes, hplus⟩ := hform e he
  have hcost : e.cost (e.got b1 b2 s).cross = some e.cycles := by simp [Enc.cost, hplus]
  have hgot : (e.got b1 b2 s).state = start 1 s := by rw [Enc.got, hmode, hbytes]; rfl
  rw [hexec e he, hcost, hgot]
  rfl

/-- `(t - m) mod 2^8` as a number is the bytes' own difference (00_scope.md R14). -/
theorem sub_eq_ofNat_mod (t m : Byte) : t - m = BitVec.ofNat 8 ((256 + t.toNat - m.toNat) % 256) := by
  have hm := m.isLt
  refine BitVec.eq_of_toNat_eq ?_
  simp only [BitVec.toNat_sub, BitVec.toNat_ofNat]
  omega

theorem ancFlags_eq (a : Byte) (p : Flags) : ancFlags a p = nz a { p with c := a.getLsbD 7 } := setNZ_eq_nz _ _

/-- ALR halves `A & b1` and puts the lost bit into C (R431). -/
theorem alrStep_eq (t : Byte) (p : Flags) : alrStep t p = (halve t p.c, nz (halve t p.c) { p with c := t.getLsbD 0 }) := by
  rw [alrStep, setNZ_eq_nz, ushiftRight_one_eq_halve t p.c]

/-- ARR rotates `A & b1`; C and V are of the rotated byte (R432). -/
theorem arrStep_eq (t : Byte) (p : Flags) :
    arrStep t p =
      let r := rollRight t p.c
      (r, nz r { p with c := r.getLsbD 6, v := r.getLsbD 6 ^^ r.getLsbD 5 }) := by
  simp only [arrStep, setNZ_eq_nz, ushiftRight_one_add_bit_eq_rollRight]
  rfl

/-- AXS compares and subtracts in one (R433). -/
theorem axsStep_eq (t m : Byte) (p : Flags) :
    axsStep t m p =
      let r := BitVec.ofNat 8 ((256 + t.toNat - m.toNat) % 256)
      (r, nz r { p with c := decide (m.toNat ≤ t.toNat) }) := by
  simp only [axsStep, setNZ_eq_nz, sub_eq_ofNat_mod]

theorem readsTo_nopUndoc : ReadsTo nopUndocEncodings (fun _ s => s) := by
  have hsplit : nopUndocEncodings = nopUndocEncodings.take 6 ++ nopUndocEncodings.drop 6 := (List.take_append_drop 6 _).symm
  rw [hsplit]
  refine readsTo_append (readsTo_of_implied (by decide) fun e he b1 b2 s => ?implied)
    (readsTo_of_readClass (by decide) fun e he b1 b2 s => ?operand)
  case implied | operand => fin_cases he <;> rfl

/-- Settles O34: every listed form is the read class, or implied, with the model's effect, which is the pseudocode's. -/
theorem undocumentedReadsHaveTheirEffects : Obligations.UndocumentedReadsHaveTheirEffects := by
  unfold Obligations.UndocumentedReadsHaveTheirEffects
  refine ⟨readsTo_nopUndoc, readsTo_of_readClass (by decide) fun e he b1 b2 s => ?lax,
    readsTo_of_readClass (by decide) fun e he b1 b2 s => ?anc, readsTo_of_readClass (by decide) fun e he b1 b2 s => ?alr,
    readsTo_of_readClass (by decide) fun e he b1 b2 s => ?arr, readsTo_of_readClass (by decide) fun e he b1 b2 s => ?axs,
    readsTo_of_readClass (by decide) fun e he b1 b2 s => ?las⟩
  case lax | las =>
    simp only [← setNZ_eq_nz]
    fin_cases he <;> rfl
  case anc =>
    simp only [← ancFlags_eq]
    fin_cases he <;> rfl
  case alr =>
    fin_cases he
    show execAlr b1 s = _
    simp only [execAlr, alrStep_eq]
    rfl
  case arr =>
    fin_cases he
    show execArr b1 s = _
    simp only [execArr, arrStep_eq]
    rfl
  case axs =>
    fin_cases he
    show execAxs b1 s = _
    simp only [execAxs, axsStep_eq]
    rfl

/-- The state with another C. -/
def setC (c : Bool) (s : State) : State := { s with p := { s.p with c := c } }

/-- A modification that sets C before the write sets it after the write as well (R422 to R425). -/
theorem memWrite_of_carry {modify : Byte → Flags → Byte × Flags} {carry : Byte → Bool}
    (hcarry : ∀ v p, (modify v p).2 = { p with c := carry v }) (a : Word) (v r : Byte) (s : State) :
    memWrite a r { s with p := (modify v s.p).2 } = setC (carry v) (memWrite a r s) := by
  rw [hcarry, memWrite_withFlags, setC, memWrite_p]

/-- A shift or rotation in memory whose byte is then combined with A is what the statements say of it, with the last part's own
pseudocode `g` after C is set. -/
theorem modifiesTo_of_carry {encs : List Enc} {f : Byte → Bool → Byte} {carry : Byte → Bool}
    {modify : Byte → Flags → Byte × Flags} {finish : Byte → State → State} {g : Byte → Byte → State → State}
    (hbyte : ∀ v p, (modify v p).1 = f v p.c) (hcarry : ∀ v p, (modify v p).2 = { p with c := carry v })
    (hfinish : ∀ v r s, finish r (setC (carry v) s) = g v r s) (hform : ∀ e ∈ encs, e.bytes = e.mode.length)
    (hexec : ∀ e ∈ encs, ∀ b1 b2, ∃ m, memOperand e.mode b1 b2 = some m ∧
      ∀ s, exec (decodeOp e.opcode b1 b2) s = modifyClass m e.cycles modify finish s) : ModifiesTo encs f g :=
  modifiesTo_of_modifyClass hbyte (fun a v r s => by rw [memWrite_of_carry hcarry, hfinish]) hform hexec

/-- The last part of DCP: the modified byte is compared with A (R428). -/
def compareA (r : Byte) (s : State) : State := { s with p := compareFlags s.a r s.p }

/-- Settles O35: SLO, RLA, SRE and RRA set C by their shift, DCP and ISC set no flag by theirs, and each ends with A's own
instruction on the modified byte. -/
theorem combinedInstructionsModifyThenCombine : Obligations.CombinedInstructionsModifyThenCombine := by
  unfold Obligations.CombinedInstructionsModifyThenCombine
  simp only [ofNat_toNat_add_one_mod, ofNat_toNat_add_255_mod]
  refine ⟨modifiesTo_of_carry (fun v p => shiftLeft_one_eq_double v p.c) shiftLeft_snd
      (finish := fun r s => setA (s.a ||| r) s) (fun v r s => setA_eq _ (setC (v.getLsbD 7) s))
      (by decide) fun e he b1 b2 => ?slo,
    modifiesTo_of_carry (fun v p => shiftLeft_one_add_bit_eq_rollLeft v p.c) rotateLeft_snd
      (finish := fun r s => setA (s.a &&& r) s) (fun v r s => setA_eq _ (setC (v.getLsbD 7) s))
      (by decide) fun e he b1 b2 => ?rla,
    modifiesTo_of_carry (fun v p => ushiftRight_one_eq_halve v p.c) shiftRight_snd
      (finish := fun r s => setA (s.a ^^^ r) s) (fun v r s => setA_eq _ (setC (v.getLsbD 0) s))
      (by decide) fun e he b1 b2 => ?sre,
    modifiesTo_of_carry (fun v p => ushiftRight_one_add_bit_eq_rollRight v p.c) rotateRight_snd
      (fun v r s => adcA_eq r (setC (v.getLsbD 0) s)) (by decide) fun e he b1 b2 => ?rra,
    modifiesTo_of_modifyClass (finish := compareA) decrement_fst (fun a v r s => compareFlags_eq _ r (memWrite a r s))
      (by decide) fun e he b1 b2 => ?dcp,
    modifiesTo_of_modifyClass increment_fst (fun a v r s => sbcA_eq r (memWrite a r s)) (by decide)
      fun e he b1 b2 => ?isc⟩
  case slo | rla | sre | rra | dcp | isc => fin_cases he <;> exact ⟨_, rfl, fun _ => rfl⟩

/-- Settles O36: an opcode byte of R226 decodes to an instruction that halts, and such an instruction is the halt. -/
theorem haltingOpcodesChangeOnlyHalted : Obligations.HaltingOpcodesChangeOnlyHalted := by
  intro op hop b1 b2 s
  have hhalts : (decodeOp op b1 b2).halts = true := by rw [decodeOp_halts, decide_eq_true hop]
  rw [exec_of_halts hhalts, halt]

end Sys2Proof.Claims
end

section
/-! PROOFS. The PPU's dots (60_exceptions.md R550 to R554): the NMI at VerticalBlank's first line, a rendered line, and a frame. -/

namespace Sys2Proof.Machine

open Sys2Proof.Claims

theorem entersVBlank_iff (before after : PpuTiming) :
    entersVBlank before after = true ↔ before.phase = .postRender ∧ after.phase = .verticalBlank := by
  simp [entersVBlank]

/-- VerticalBlank begins at its first line's first dot (R550). -/
theorem nextDot_of_entersVBlank {r : Region} {t : PpuTiming} (h : entersVBlank t (nextDot r t) = true) :
    nextDot r t = ⟨.verticalBlank, 0, 0⟩ := by
  obtain ⟨hbefore, hafter⟩ := (entersVBlank_iff _ _).mp h
  have hend : withinLine r t = false := by
    cases hwithin : withinLine r t with
    | false => rfl
    | true => exact absurd h (by simp [withinLine_quiet hwithin])
  simp only [nextDot, hend, nextLine, hbefore, Bool.false_eq_true, if_false] at hafter ⊢
  split at hafter
  · nomatch hafter
  · rw [if_neg ‹_›]

theorem stepDot_timing (r : Region) (d : Devices) : (stepDot r d).1.ppu.timing = nextDot r d.ppu.timing := by
  obtain ⟨ms, l, mir, ls, px, hstep, -⟩ := stepDot_cases r d
  rw [hstep]

theorem stepDot_vblankFlag (r : Region) (d : Devices) :
    (stepDot r d).1.ppu.latches.vblankFlag =
      (d.ppu.latches.vblankFlag || entersVBlank d.ppu.timing (nextDot r d.ppu.timing)) := by
  obtain ⟨ms, l, mir, ls, px, hstep, hflag, -⟩ := stepDot_cases r d
  rw [hstep, hflag]

theorem stepDot_nmi (r : Region) (d : Devices) :
    (stepDot r d).2.nmi = (entersVBlank d.ppu.timing (nextDot r d.ppu.timing) && d.ppu.latches.nmiEnable) := by
  obtain ⟨ms, l, mir, ls, px, -, -, hnmi, -⟩ := stepDot_cases r d
  exact hnmi

/-- Settles O58: a dot by where it leads, a rendered line by its definition. -/
theorem ppuSignalsVBlankAndLimitsSprites : Obligations.PpuSignalsVBlankAndLimitsSprites := by
  refine ⟨fun r d => ?dot, fun d line => ⟨rfl, ?overflow, fun row hrow => ?rows⟩⟩
  case dot =>
    simp only [stepDot_timing, stepDot_vblankFlag, stepDot_nmi, ← entersVBlank_iff, Bool.and_eq_true, true_and]
    refine fun hbegins => ?_
    rw [hbegins, Bool.or_true, nextDot_of_entersVBlank hbegins]
    exact ⟨rfl, rfl, rfl⟩
  case overflow =>
    have hflag : (renderLine d line).ppu.latches.spriteOverflow =
        (d.ppu.latches.spriteOverflow || decide (spriteLimit < (Config.spritesOnLine d line.val).length)) := rfl
    rw [hflag, Bool.or_eq_true, decide_eq_true_eq, spriteLimit]
  case rows =>
    have hne : line.val ≠ row.val := fun h => hrow (Fin.ext h.symm)
    exact Vector.getElem_set_ne line.isLt row.isLt hne

/-- The dots' entries into VerticalBlank are those of the timing alone. -/
theorem vblankEntries_eq (k : Nat) (s : State) :
    vblankEntries k s = (dotsRun s.session.region k s.dev.ppu.timing).2.1 := by
  induction k generalizing s with
  | zero => rfl
  | succ k ih =>
    have htiming : (advanceDots 1 s).dev.ppu.timing = nextDot s.session.region s.dev.ppu.timing := stepDot_timing _ _
    have hregion : (advanceDots 1 s).session.region = s.session.region := rfl
    simp only [vblankEntries, dotsRun, ih, htiming, hregion, ← entersVBlank_iff]
    cases entersVBlank s.dev.ppu.timing (nextDot s.session.region s.dev.ppu.timing) <;> rfl

/-- The dots of one frame, from any place in it (R554, 70_reset_and_hazards.md R623). -/
theorem advanceDots_frame {s : State} (hs : s.Inv) :
    let t := advanceDots (frameDots s.session.region) s
    t.dev.ppu.timing = s.dev.ppu.timing ∧ t.dev.ppu.frames = s.dev.ppu.frames + 1 ∧
      vblankEntries (frameDots s.session.region) s = 1 := by
  obtain ⟨-, hdev⟩ := hs
  obtain ⟨-, -, hframe, -⟩ := (Devices.wf_iff _ _).mp hdev
  obtain ⟨ms, p, n, q, hadvance, htiming, hframes, -⟩ := advanceDots_state (frameDots s.session.region) s
  rw [dotsRun_frame hframe] at htiming hframes
  simp only [hadvance, vblankEntries_eq, dotsRun_frame hframe]
  exact ⟨htiming, hframes, trivial⟩

end Sys2Proof.Machine
end

section
/-! PROOFS. What a step keeps (30_encoding.md R160) and how many cycles it takes (70_reset_and_hazards.md R620). -/

namespace Sys2Proof

open Sys2Proof.Machine Sys2Proof.Claims

/-- A fetch is reads (R160). -/
theorem IsFrame.fetch {R : State → State → Prop} (hR : IsFrame R) (s : State) : R s (fetch s).2 := by
  have hop := hR.memRead s.pc s
  unfold Machine.fetch
  dsimp only
  split <;> split
  · exact hR.trans hop (hR.trans (hR.memRead _ _) (hR.memRead _ _))
  · exact hR.trans hop (hR.memRead _ _)
  · exact hR.trans hop (hR.memRead _ _)
  · exact hop

/-- The poll enters at most one interrupt, which neither halts nor touches the session (60_exceptions.md R510). -/
theorem poll_keeps (s : State) : (poll s).2.halted = s.halted ∧ (poll s).2.session = s.session := by
  rw [poll_eq]
  split
  · have h := enterInterrupt_entered 0xFFFA s.pc false { s with nmiPending := false }
    exact ⟨h.halted, h.session⟩
  · split
    · have h := enterInterrupt_entered 0xFFFE s.pc false { s with irqPending := false }
      exact ⟨h.halted, h.session⟩
    · exact ⟨rfl, rfl⟩

/-- What a step's instruction starts from and answers: it runs unhalted, in the step's session, and the step's count is its own with
the entry's added. -/
theorem step_exec {s t : State} (h : step s = .next t) :
    ∃ i u v, u.halted = false ∧ u.session = s.session ∧ exec i u = .next v ∧
      t = { v with cycles := v.cycles.map ((poll s).1 + ·) } := by
  obtain ⟨hrun, v, hexec, ht⟩ := step_next h
  obtain ⟨hhalted, hsession⟩ := poll_keeps s
  have hfetch := restKept_isFrame.fetch (poll s).2
  have hs : s.halted = false := by
    simp only [isRunning, Bool.and_eq_true, Bool.not_eq_true'] at hrun
    exact hrun.2
  exact ⟨_, _, v, hfetch.halted.trans (hhalted.trans hs), hfetch.session.trans hsession, hexec, ht⟩

theorem step_session {s t : State} (h : step s = .next t) : t.session = s.session := by
  obtain ⟨i, u, v, -, hsession, hexec, rfl⟩ := step_exec h
  obtain ⟨w, hw, -, -, hkept, -⟩ := instructionsLeaveTheRestOfTheMachine i u
  cases hw.symm.trans hexec
  exact hkept.trans hsession

/-- The most cycles an effect adds to its base count: the page-crossing penalty of the read class (R185). -/
def Effect.penalty : Effect → Nat
  | .read _ _ => 1
  | .implied _ | .write _ _ | .modify _ _ _ | .branch _ _ | .jump _ | .call _ | .halt => 0

/-- Every instruction runs as its effect, with a base count of 2 to 8 cycles, the penalty included. -/
theorem exec_eq_run_base (i : Instr) :
    ∃ base, (∀ s, exec i s = i.effect.run base s) ∧ 2 ≤ base ∧ base + i.effect.penalty ≤ 8 := by
  cases i
  case bpl | bmi | bvc | bvs | bcc | bcs | bne | beq | jsr | jam02 | jam12 | jam22 | jam32 | jam42 | jam52 | jam62 | jam72
      | jam92 | jamB2 | jamD2 | jamF2 | ane | lxa | shaIndy | shaAbsy | shs | shy | shx =>
    exact ⟨2, fun _ => rfl, le_refl 2, Nat.le_of_ble_eq_true rfl⟩
  all_goals exact ⟨_, fun _ => rfl, by decide, Nat.le_of_ble_eq_true rfl⟩

/-- An effect that does not halt counts its base, a penalty of at most 1 in the read class, and its own 2 to 6 as a branch or a call. -/
theorem run_cycles {e : Effect} (hhalts : e.halts = false) {base : Nat} (hlow : 2 ≤ base) (hhigh : base + e.penalty ≤ 8)
    (s : State) : ∃ t n, e.run base s = .next t ∧ t.cycles = some n ∧ 2 ≤ n ∧ n ≤ 8 := by
  cases e with
  | implied f | write m v | modify m f g | jump m => exact ⟨_, base, rfl, rfl, hlow, hhigh⟩
  | call w => exact ⟨_, 6, rfl, rfl, by decide, by decide⟩
  | read o f =>
    have hextra : (readSource o (advancePc (sourceLength o) s)).extra ≤ 1 := by
      cases o with
      | imm b => exact Nat.zero_le 1
      | mem m => exact Bool.toNat_le _
    simp only [Effect.penalty] at hhigh
    exact ⟨_, _, rfl, rfl, by omega, by omega⟩
  | branch cond b =>
    have hcross := Bool.toNat_le (hi8 (advancePc 2 s).pc != hi8 (branchTarget (advancePc 2 s).pc b))
    simp only [Effect.run, Machine.branch]
    split
    · exact ⟨_, _, rfl, rfl, by omega, by omega⟩
    · exact ⟨_, 2, rfl, rfl, by decide, by decide⟩
  | halt => nomatch hhalts

/-- An instruction halts and counts nothing, or counts 2 to 8 cycles and halts no more than it did (R620, 60_exceptions.md R500). -/
theorem exec_cycles {i : Instr} {s t : State} (h : exec i s = .next t) :
    (t.halted = true ∧ t.cycles = none) ∨ (t.halted = s.halted ∧ ∃ n, t.cycles = some n ∧ 2 ≤ n ∧ n ≤ 8) := by
  cases hhalts : i.halts with
  | true =>
    cases (exec_of_halts hhalts s).symm.trans h
    exact .inl ⟨rfl, rfl⟩
  | false =>
    obtain ⟨base, hrun, hlow, hhigh⟩ := exec_eq_run_base i
    obtain ⟨u, n, hu, hcount, hn⟩ := run_cycles ((effect_halts i).trans hhalts) hlow hhigh s
    obtain ⟨w, hw, -, -, -, hhalted, -⟩ := instructionsLeaveTheRestOfTheMachine i s
    cases ((hrun s).trans hu).symm.trans h
    cases hw.symm.trans h
    exact .inr ⟨by simpa [hhalts] using hhalted, n, hcount, hn⟩

/-- The poll's own cycles: none where it is quiet, else the 7 of an entry (60_exceptions.md R510, R520, R521). -/
theorem poll_cycles (s : State) : (quiet s → (poll s).1 = 0) ∧ (¬quiet s → (poll s).1 = 7) := by
  refine ⟨fun h => by rw [poll_of_quiet h], fun h => ?_⟩
  rw [poll_eq]
  split
  · rfl
  · split
    · rfl
    · rename_i hnmi hirq
      refine absurd ⟨by simpa using hnmi, ?_⟩ h
      simpa only [not_and_or, Bool.not_eq_true, Bool.not_eq_false] using hirq

/-- Settles O44: the instruction's 2 to 8 cycles and the entry's 7. -/
theorem stepsTakeTwoToFifteenCycles : Obligations.StepsTakeTwoToFifteenCycles := by
  intro s t h
  obtain ⟨i, u, v, hhalted, -, hexec, rfl⟩ := step_exec h
  obtain ⟨hquiet, hentry⟩ := poll_cycles s
  obtain ⟨hhalts, hnone⟩ | ⟨hkept, n, hcount, hlow, hhigh⟩ := exec_cycles hexec
  · simp [hhalts, hnone]
  · simp only [hkept, hhalted, hcount, Option.map_some, reduceCtorEq, Bool.false_eq_true, true_and, Option.some.injEq]
    rintro m rfl
    by_cases hq : quiet s
    · rw [hquiet hq]
      exact ⟨by omega, by omega, fun _ => by omega, fun h => absurd hq h⟩
    · rw [hentry hq]
      exact ⟨by omega, by omega, fun h => absurd h hq, fun _ => by omega⟩

end Sys2Proof
end

section
/-! PROOFS. The session's run step on NTSC (60_exceptions.md R554, R570, 70_reset_and_hazards.md R623), and the CPU's reset (R600). -/

namespace Sys2Proof

open Sys2Proof.Machine Sys2Proof.Claims

theorem advanceDots_session (k : Nat) (s : State) : (advanceDots k s).session = s.session := by
  obtain ⟨ms, p, nmi, irq, hdots, -⟩ := advanceDots_state k s
  rw [hdots]

/-- The state after the dots of a step's n cycles on NTSC, 3 for each (R570). -/
def afterDots (n : Nat) (s : State) : State := advanceDots (3 * n) { s with dev := recordEvent s.dev (.advance n) }

/-- An advance on NTSC is the dots, then a change of the APU and the session's sum. -/
theorem advanceDevices_ntsc (n : Nat) {s : State} (hregion : s.session.region = .ntsc) :
    ∃ u, advanceDevices n s =
      { afterDots n s with
        dev := { (afterDots n s).dev with apu := u }
        session := { s.session with totalCycles := s.session.totalCycles + n } } := by
  obtain ⟨u, hu⟩ := advanceApu_cases (ticksFor (Config.apuClocksPerCycle .ntsc) s.session.totalCycles n) (afterDots n s).dev
  have hsession : (afterDots n s).session = s.session := advanceDots_session _ _
  refine ⟨u, ?_⟩
  rw [← hu]
  simp only [advanceDevices, hregion, ticksFor_ntsc]
  rw [← afterDots, hsession, hregion]

/-- The dots leave the CPU's registers, RAM and halt. -/
theorem afterDots_keeps (n : Nat) (s : State) :
    sameRegs s (afterDots n s) ∧ (afterDots n s).ram = s.ram ∧ (afterDots n s).halted = s.halted := by
  obtain ⟨ms, p, nmi, irq, hdots, -⟩ := advanceDots_state (3 * n) { s with dev := recordEvent s.dev (.advance n) }
  rw [afterDots, hdots]
  exact ⟨⟨rfl, rfl, rfl, rfl, rfl, rfl⟩, rfl, rfl⟩

/-- Settles O59: the session's step by whether the CPU's counted, and the frame's dots by `dotsRun`. -/
theorem sessionStepsAdvanceThreeDotsPerCycle : Obligations.SessionStepsAdvanceThreeDotsPerCycle := by
  refine ⟨fun s t hregion hphase hstep => ⟨advanceByCount t, sessionStep_of_step hphase hstep, ?_⟩, fun s n hs hregion hn => ?frame⟩
  case frame =>
    have hdots : n = frameDots s.session.region := by rw [hn, hregion]; rfl
    rw [hdots]
    exact advanceDots_frame hs
  have hsession := step_session hstep
  rw [← hsession] at hregion ⊢
  obtain hcount | ⟨n, hcount⟩ := t.cycles.eq_none_or_eq_some
  · have hstays : advanceByCount t = t := by simp only [advanceByCount, hcount]
    rw [hstays]
    exact ⟨by simp [hcount], by simp [hcount], sameRegs_refl t, rfl, rfl, fun _ => rfl⟩
  · obtain ⟨u, hadvance⟩ := advanceDevices_ntsc n hregion
    have hcounted : advanceByCount t = advanceDevices n t := by simp only [advanceByCount, hcount]
    obtain ⟨hregs, hram, hhalted⟩ := afterDots_keeps n t
    rw [hcounted, hadvance]
    refine ⟨by simp [hcount], fun m hm => ?_, hregs, hram, hhalted, by simp [hcount]⟩
    cases hcount.symm.trans hm
    exact ⟨rfl, rfl, rfl, rfl⟩

/-- The CPU's reset with its two reads of the vector written as bus reads, which see the devices alone (R600, 20_memory.md R103). -/
theorem cpuReset_eq (r : ResetRegs) (s : State) :
    cpuReset r s =
      let lo := busRead s.dev 0xFFFC
      let hi := busRead lo.2 0xFFFD
      { s with
        a := r.a
        x := r.x
        y := r.y
        sp := r.sp
        pc := word hi.1 lo.1
        p := { n := r.n, v := r.v, d := r.d, i := true, z := r.z, c := r.c }
        nmiPending := false
        irqPending := false
        halted := false
        cycles := none
        dev := hi.2 } := by
  have hlow : isRam resetVector = false := by decide
  have hhigh : isRam (resetVector + 1) = false := by decide
  simp only [cpuReset, read16, memRead_bus hlow, memRead_bus hhigh]
  rfl

/-- Settles O55: the model's bus reads are the statement's memory reads at $FFFC and $FFFD, which are above RAM. -/
theorem resetSetsTheNamedRegisters : Obligations.ResetSetsTheNamedRegisters := by
  intro r s
  have hlow : isRam 0xFFFC = false := by decide
  have hhigh : isRam 0xFFFD = false := by decide
  simp only [cpuReset_eq, memRead_bus hlow, memRead_bus hhigh, and_self]

end Sys2Proof
end
